-- ==== Sys2Proof/Word.lean ====
section
/-! DEFINITION. The unsigned values of 00_scope.md R9 and R12: bytes, 32-bit words, 64-bit values. -/

namespace Sys2Proof

/-- A byte of a stream or of a command (8 bits). -/
abbrev Byte := BitVec 8

/-- A register of the window, a checksum or a command word (32 bits, R10). -/
abbrev Word := BitVec 32

/-- A length, a counter or an offset (64 bits, R9 and R10). -/
abbrev DWord := BitVec 64

end Sys2Proof
end

