-- ==== Sys2Proof/Syntax.lean ====
section
/-! DEFINITION. The commands of spec/opcode_table.json, the fields of the command format CMD32, and the
moves of the agents around the block (20_memory.md R60, R65, R66, R75). -/

namespace Sys2Proof

/-- The six commands, one constructor per row of spec/opcode_table.json (30_encoding.md R101). -/
inductive Instr where
  /-- OPEN, opcode 0x01 (R150). -/
  | openInput
  /-- NEXT, opcode 0x02 (R151). -/
  | nextFrame
  /-- SKIP, opcode 0x03 (R200). -/
  | skipFrame
  /-- CLOSE, opcode 0x04 (R153). -/
  | closeInput
  /-- CKS_INIT, opcode 0x10 (R125). -/
  | cksInit
  /-- CKS_BYTE, opcode 0x11, with its operand IMM8 (R126). -/
  | cksByte (b : Byte)
deriving DecidableEq, Repr

/-- The three fields of the one command format, CMD32 (30_encoding.md R100). -/
structure CmdFields where
  opc  : Byte
  imm8 : Byte
  rsvd : BitVec 16
deriving DecidableEq, Repr

/-- Why a write to CMD is rejected (60_exceptions.md R225). -/
inductive Rejection where
  /-- 1: the opcode is not assigned (R103). -/
  | rsvdOpcode
  /-- 2: a reserved bit, or an IMM8 the command does not use, is not zero (R104). -/
  | rsvdBits
  /-- 3: STATUS.BUSY = 1. -/
  | busy
  /-- 4: the command is not legal in the current IN_STATE. -/
  | badState
deriving DecidableEq, Repr

/-- How an input ends (00_scope.md R11). -/
inductive Term where
  | endOfInput
  | error
deriving DecidableEq, Repr

/-- INPUT = (data, term), what a bound source delivers and how it ends (00_scope.md R11). -/
structure Input where
  data : List Byte
  term : Term
deriving DecidableEq, Repr

/-- The answer to one transfer on the input port (20_memory.md R66). -/
inductive Answer where
  /-- BYTE(b): the next byte of the input. -/
  | byte (b : Byte)
  /-- END: no byte remains. -/
  | endOfInput
  /-- ERROR: an I/O failure. -/
  | error
deriving DecidableEq, Repr

/-- One move of an agent around the block (20_memory.md R75). A register access names its byte offset in the
window, its width in bytes and, for a write, its value (R60). -/
inductive Move where
  /-- MemWrite(REG_BASE + off, width, v). -/
  | write (off width : Nat) (v : Word)
  /-- MemRead(REG_BASE + off, width). -/
  | read (off width : Nat)
  /-- The host connects an input source to the input port (R65). -/
  | bind (input : Input)
  /-- The reset input is asserted (70_reset_and_hazards.md R260). -/
  | reset
  /-- The input source answers the transfer the engine asks for, and the payload port accepts the byte that
  engine step emits, if it emits one (R66, R274): what one engine step needs. -/
  | answer
deriving DecidableEq, Repr

end Sys2Proof
end

