-- ==== Sys2Proof/Config.lean ====
section
/-! DEFINITION. What the platform fixes and what the spec leaves open: constants without a body, so that
nothing can be proved of their values. -/

namespace Sys2Proof

/-- REG_BASE, the window's base address in the host's address space, a parameter (20_memory.md R60). Log 7. -/
opaque Config.regBase : Nat

/-- NUM_INSTANCES, how many independent blocks the platform has (60_exceptions.md R244). Log 14. -/
opaque Config.numInstances : Nat

/-- FREE VALUE. The answer to transfer number n on an input port to which no source was connected when OPEN was
accepted: any answer, or none at all. The spec makes the connection the host's duty (70_reset_and_hazards.md
R264) and says nothing of this case. DESIGN CHOICE, log 3. One sequence serves every block, each counting it from its own
`freeReads`: whether the unconnected ports of different blocks (60_exceptions.md R244) answer independently is open in the spec, and
that they answer alike is the model's choice. DESIGN CHOICE, unsafe, logs 3 and 14. -/
opaque Config.unconnectedAnswer : Nat → Option Answer

end Sys2Proof
end

