-- ==== Sys2Proof/Machine/State.lean ====
section
/-! DEFINITION. The state of one MCRC-FV block and of what surrounds it, as plain data (10_state.md,
20_memory.md), the reasons a step can stop, and the state after reset (R50, R260). -/

namespace Sys2Proof.Machine

/-- The engine phase, visible as STATUS.PHASE (10_state.md R27, R44). -/
inductive Phase where
  | idle
  /-- Reading the 8 length bytes. -/
  | len
  /-- Reading the 4 length_checksum bytes. -/
  | lcrc
  /-- Reading payload bytes. -/
  | pay
  /-- Reading the 4 payload_checksum bytes. -/
  | pcrc
deriving DecidableEq, Repr

/-- STATUS.IN_STATE, the state of the current input (10_state.md R26). -/
inductive InState where
  /-- CLOSED: no input has been opened since reset. -/
  | closed
  /-- OPEN: an input is bound and not finished. -/
  | opened
  /-- ENDED: clean end-of-stream was met. -/
  | ended
  /-- TRUNCATED: the input ended mid-frame. -/
  | truncated
  /-- UNREADABLE: the input port reported an I/O failure. -/
  | unreadable
  /-- ABANDONED: the host closed the input before its end. -/
  | abandoned
deriving DecidableEq, Repr

/-- FRAME_STATUS.OUTCOME (10_state.md R30). -/
inductive FrameOutcome where
  /-- NONE: no frame command has finished since the last OPEN or reset, or one is in progress. -/
  | none
  /-- FRAME: a whole frame was parsed. -/
  | frame
  /-- END: clean end-of-stream. -/
  | endOfStream
  /-- TRUNCATED: the stream ended mid-frame. -/
  | truncated
  /-- UNREADABLE: the input port reported an I/O failure. -/
  | unreadable
deriving DecidableEq, Repr

/-- st.op, the kind of the frame command in progress (10_state.md R44). -/
inductive FrameOp where
  /-- NEXT: both checksums are verified. -/
  | verify
  /-- SKIP: no checksum is verified. -/
  | skip
deriving DecidableEq, Repr

/-- The input binding (10_state.md R48), held from an accepted OPEN until Release(). -/
inductive Binding where
  /-- The block holds no binding. -/
  | notHeld
  /-- OPEN was accepted with no source connected to the port; nothing is known of the answers (log 3). -/
  | unconnected
  /-- The block holds this source, which has given `pos` BYTE answers since it was taken (R66). -/
  | source (input : Input) (pos : Nat)
deriving DecidableEq, Repr

/-- What an observer at the block's ports sees (60_exceptions.md R233, 20_memory.md R60, R69, R71). Log 9. -/
inductive Event where
  /-- Rejected(code), in the step of the rejected write to CMD. -/
  | rejected (c : Rejection)
  /-- Release(): the block no longer holds the input binding. -/
  | release
  /-- OutWrite(b): one payload byte on the output port. -/
  | outWrite (b : Byte)
  /-- A register read at this offset and width returned this value to the host. -/
  | readData (off width : Nat) (v : Word)
  /-- The reset input was asserted. -/
  | reset
deriving DecidableEq, Repr

/-- One block, its ports and what is to happen around it. -/
structure State where
  /-- STATUS.BUSY (R24). -/
  busy : Bool
  /-- STATUS.CMD_ERR (R25). -/
  cmdErr : Bool
  /-- STATUS.ERR_CODE, NONE as `none` (R25). -/
  errCode : Option Rejection
  /-- STATUS.IN_STATE (R26). -/
  inState : InState
  /-- STATUS.PHASE and st.phase (R27, R44). -/
  phase : Phase
  /-- FRAME_STATUS.OUTCOME (R30). -/
  outcome : FrameOutcome
  /-- FRAME_STATUS.VERIFY (R29). -/
  verify : Bool
  /-- FRAME_STATUS.BAD_LEN (R29). -/
  badLen : Bool
  /-- FRAME_STATUS.BAD_PAY (R29). -/
  badPay : Bool
  /-- FRAME_STATUS.STOP_PHASE, NONE as IDLE, both code 0 (R32). -/
  stopPhase : Phase
  /-- LENGTH (R33). -/
  length : DWord
  /-- LEN_CKSUM_STORED (R34). -/
  lenCksumStored : Word
  /-- LEN_CKSUM_CALC (R34). -/
  lenCksumCalc : Word
  /-- PAY_CKSUM_STORED (R35). -/
  payCksumStored : Word
  /-- PAY_CKSUM_CALC (R35). -/
  payCksumCalc : Word
  /-- RECORDS_CHECKED (R36). -/
  recordsChecked : DWord
  /-- BAD_LEN_COUNT (R37). -/
  badLenCount : DWord
  /-- BAD_PAY_COUNT (R38). -/
  badPayCount : DWord
  /-- RECORDS_SKIPPED (R39). -/
  recordsSkipped : DWord
  /-- STREAM_OFFSET (R40). -/
  streamOffset : DWord
  /-- FRAME_START (R41). -/
  frameStart : DWord
  /-- st.idx (R44). -/
  idx : BitVec 3
  /-- st.op (R44). -/
  op : FrameOp
  /-- st.lbuf (R45). -/
  lbuf : DWord
  /-- st.lcs (R45). -/
  lcs : Word
  /-- st.pcs (R45). -/
  pcs : Word
  /-- st.remaining (R46). -/
  remaining : DWord
  /-- st.len_acc (R47). -/
  lenAcc : Word
  /-- st.pay_acc (R47). -/
  payAcc : Word
  /-- st.cks_acc (R49). -/
  cksAcc : Word
  /-- The input binding (R48). -/
  binding : Binding
  /-- The source the host has connected to the input port and no OPEN has taken yet (R65). -/
  connected : Option Input
  /-- PAYLOAD_OUT, the payload bytes emitted since the last accepted OPEN, in order (R71). -/
  payloadOut : List Byte
  /-- The event history, oldest first (R233). -/
  history : List Event
  /-- The model's own: how many free answers have been used (log 3). -/
  freeReads : Nat
  /-- The model's own: the moves the agents will make, the next one first (R75, log 1). -/
  pending : List Move
deriving DecidableEq, Repr

/-- The one way the model stops with a fault. -/
inductive Fault where
  /-- An engine step in phase IDLE with BUSY = 1. 41_frame_reader.md R154 says it never happens, and the model's
  invariant excludes it; raised by the engine step. Safe: only unreachable states raise it (log 11). -/
  | engineStepInIdlePhase
deriving DecidableEq, Repr

/-- What the model refuses. -/
inductive Refusal where
  /-- An instruction without a meaning in the model, by mnemonic; raised by exec for such an arm. Safe. -/
  | notModelled (mnemonic : String)
  /-- A register access at an offset of 0x100 or more: the block does not decode it and the platform decides
  (20_memory.md R61, U2 of 93_implementation_defined.md); raised by a host access. Safe (log 6). -/
  | accessOutsideWindow (off : Nat)
  /-- The host connects a source while IN_STATE = OPEN: the spec gives such a rebinding no step (20_memory.md R65,
  U5 of 93_implementation_defined.md); raised by the move `bind`. Unsafe, as D13 of the spec says: it hides the
  runs of a host that does so (log 5). -/
  | rebindWhileOpen
deriving DecidableEq, Repr

/-- The state after reset (R50, R260). The spec states every value but those of `connected`, `history`,
`freeReads` and `pending` (logs 1, 3, 4, 9). -/
def State.reset : State where
  busy := false
  cmdErr := false
  errCode := none
  inState := .closed
  phase := .idle
  outcome := .none
  verify := false
  badLen := false
  badPay := false
  stopPhase := .idle
  length := 0
  lenCksumStored := 0
  lenCksumCalc := 0
  payCksumStored := 0
  payCksumCalc := 0
  recordsChecked := 0
  badLenCount := 0
  badPayCount := 0
  recordsSkipped := 0
  streamOffset := 0
  frameStart := 0
  idx := 0
  op := .verify
  lbuf := 0
  lcs := 0
  pcs := 0
  remaining := 0
  lenAcc := 0xFFFFFFFF
  payAcc := 0xFFFFFFFF
  cksAcc := 0xFFFFFFFF
  binding := .notHeld
  connected := none
  payloadOut := []
  history := []
  freeReads := 0
  pending := []

end Sys2Proof.Machine
end

