-- ==== Sys2Proof/Machine/Checksum.lean ====
section
/-! DEFINITION. The masked CRC-32C function of the Checksum Engine (40_checksum.md R120 to R128). -/

namespace Sys2Proof.Machine

/-- The Castagnoli polynomial in bit-reflected form (R120). PRESUMED in the spec itself, log 12. -/
def crcPoly : Word := 0x82F63B78

/-- The initial register value, and the final XOR (R120). -/
def crcInit : Word := 0xFFFFFFFF

/-- One of the eight rounds of crc_upd (R121). -/
def crcRound (acc : Word) : Word :=
  if acc.getLsbD 0 then (acc >>> 1) ^^^ crcPoly else acc >>> 1

/-- crc_upd(acc, b), the register update for one byte (R121). -/
def crcUpd (acc : Word) (b : Byte) : Word := Nat.repeat crcRound 8 (acc ^^^ b.setWidth 32)

/-- The register after feeding the bytes in order (R121). -/
def crcFeed (acc : Word) (bytes : List Byte) : Word := bytes.foldl crcUpd acc

/-- CRC32C(bytes) (R121). -/
def crc32c (bytes : List Byte) : Word := crcFeed crcInit bytes ^^^ crcInit

/-- rotr32(v, n) for 0 ≤ n ≤ 32 (00_scope.md R12). -/
def rotr32 (v : Word) (n : Nat) : Word := (v >>> n) ||| (v <<< (32 - n))

/-- rotl32(v, 15) = rotr32(v, 17), as R128 writes it. -/
def rotl15 (v : Word) : Word := (v <<< 15) ||| (v >>> 17)

/-- The constant the mask adds (R122). -/
def maskDelta : Word := 0xA282EAD8

/-- mask(crc) = rotr32(crc, 15) + 0xA282EAD8 mod 2^32 (R122). The constant is written as the first summand, the sum being the
same, so that a reduction never counts it down. -/
def mask (c : Word) : Word := maskDelta + rotr32 c 15

/-- unmask(m), the inverse of mask (R128). -/
def unmask (m : Word) : Word := rotl15 (m - maskDelta)

/-- The masked checksum of an accumulator, which holds the value before the final XOR (R121, R168). -/
def maskedOfAcc (acc : Word) : Word := mask (acc ^^^ crcInit)

/-- masked_checksum(bytes) (R124). -/
def maskedChecksum (bytes : List Byte) : Word := mask (crc32c bytes)

end Sys2Proof.Machine
end

