-- ==== Sys2Proof/Machine/Flags.lean ====
section
/-! DEFINITION. The numeric codes of the coded fields and the words STATUS and FRAME_STATUS, with their
combinational bits (10_state.md R23 to R32). -/

namespace Sys2Proof.Machine

/-- PHASE codes (10_state.md R27), used by STOP_PHASE too (R32). -/
def phaseCode : Phase → BitVec 3
  | .idle => 0
  | .len => 1
  | .lcrc => 2
  | .pay => 3
  | .pcrc => 4

/-- IN_STATE codes (10_state.md R26). -/
def inStateCode : InState → BitVec 3
  | .closed => 0
  | .opened => 1
  | .ended => 2
  | .truncated => 3
  | .unreadable => 4
  | .abandoned => 5

/-- OUTCOME codes (10_state.md R30). -/
def outcomeCode : FrameOutcome → BitVec 3
  | .none => 0
  | .frame => 1
  | .endOfStream => 2
  | .truncated => 3
  | .unreadable => 4

/-- ERR_CODE codes (10_state.md R25, 60_exceptions.md R225). -/
def errCodeOf : Option Rejection → BitVec 3
  | none => 0
  | some .rsvdOpcode => 1
  | some .rsvdBits => 2
  | some .busy => 3
  | some .badState => 4

/-- The terminal states of an input (10_state.md R26, 00_scope.md R16). -/
def inStateTerminal : InState → Bool
  | .closed => false
  | .opened => false
  | .ended => true
  | .truncated => true
  | .unreadable => true
  | .abandoned => true

/-- STATUS.SUMMARY_CLEAN (10_state.md R28). -/
def State.summaryClean (s : State) : Bool :=
  s.inState == .ended && s.badLenCount == 0 && s.badPayCount == 0

/-- FRAME_STATUS.VALID (10_state.md R31). -/
def State.frameValid (s : State) : Bool :=
  s.outcome == .frame && s.verify && !s.badLen && !s.badPay

/-- A field of a register whose lowest bit is bit `lo` of the register. -/
def fieldAt {w : Nat} (v : BitVec w) (lo : Nat) : Word := v.setWidth 32 <<< lo

/-- STATUS as a word: bit 0 BUSY, 1 CMD_ERR, [4:2] ERR_CODE, [10:8] IN_STATE, [14:12] PHASE, 15 SUMMARY_CLEAN,
every other bit 0 (10_state.md R23). -/
def State.statusWord (s : State) : Word :=
  fieldAt (BitVec.ofBool s.busy) 0 ||| fieldAt (BitVec.ofBool s.cmdErr) 1 ||| fieldAt (errCodeOf s.errCode) 2
    ||| fieldAt (inStateCode s.inState) 8 ||| fieldAt (phaseCode s.phase) 12
    ||| fieldAt (BitVec.ofBool s.summaryClean) 15

/-- FRAME_STATUS as a word: [2:0] OUTCOME, bit 3 VERIFY, 4 BAD_LEN, 5 BAD_PAY, 6 VALID, [10:8] STOP_PHASE, every
other bit 0 (10_state.md R29). -/
def State.frameStatusWord (s : State) : Word :=
  fieldAt (outcomeCode s.outcome) 0 ||| fieldAt (BitVec.ofBool s.verify) 3 ||| fieldAt (BitVec.ofBool s.badLen) 4
    ||| fieldAt (BitVec.ofBool s.badPay) 5 ||| fieldAt (BitVec.ofBool s.frameValid) 6
    ||| fieldAt (phaseCode s.stopPhase) 8

end Sys2Proof.Machine
end

