-- ==== Sys2Proof/Machine/Operands.lean ====
section
/-! DEFINITION. Little-endian assembly of the bytes of a field, one byte at a time and at once, and the halves of a
64-bit register (00_scope.md R14, 10_state.md R45, 20_memory.md R62, R63). -/

namespace Sys2Proof.Machine

/-- `v[8*idx+7 : 8*idx] <- b`, the other bits unchanged (10_state.md R45). -/
def placeByte {w : Nat} (v : BitVec w) (idx : Nat) (b : Byte) : BitVec w :=
  (v &&& ~~~((0xFF#8).setWidth w <<< (8 * idx))) ||| (b.setWidth w <<< (8 * idx))

/-- le(bytes) in w bits: the first byte in bits [7:0] (00_scope.md R14). -/
def le (w : Nat) : List Byte → BitVec w
  | [] => 0
  | b :: bs => (le w bs <<< 8) ||| b.setWidth w

/-- The n bytes of the little-endian encoding of v, first byte first: le8 for n = 8, le4 for n = 4 (R14). -/
def leBytes {w : Nat} (n : Nat) (v : BitVec w) : List Byte :=
  (List.range n).map fun k => v.extractLsb' (8 * k) 8

/-- X[31:0], the register X_LO (20_memory.md R63). -/
def lowHalf (x : DWord) : Word := x.extractLsb' 0 32

/-- X[63:32], the register X_HI (20_memory.md R63). -/
def highHalf (x : DWord) : Word := x.extractLsb' 32 32

/-- The byte of a 32-bit register that a byte-addressing host sees at off + k, for k = 0 to 3 (20_memory.md R62). -/
def byteLane (v : Word) (k : Nat) : Byte := v.extractLsb' (8 * k) 8

end Sys2Proof.Machine
end

