-- ==== Sys2Proof/Machine/Ops.lean ====
section
/-! DEFINITION. The operations the commands and the engine share: rejecting and accepting a command (60_exceptions.md
R226), the ports (20_memory.md R65 to R71), the common parts of the frame commands (41_frame_reader.md R155, R166).

The block has no trap (R230). Its one counterpart of taking an exception is `State.raiseCmdError`; nothing returns
from it (R232): the next accepted command clears the error with `State.clearCmdError`. -/

namespace Sys2Proof.Machine

/-- raise CmdError(c): CMD_ERR, ERR_CODE and the event Rejected(c), nothing else (R226, R233). -/
def State.raiseCmdError (s : State) (c : Rejection) : State :=
  { s with cmdErr := true, errCode := some c, history := s.history ++ [.rejected c] }

/-- CMD_ERR <- 0; ERR_CODE <- NONE, a part of every accepted command (R25, R226). -/
def State.clearCmdError (s : State) : State :=
  { s with cmdErr := false, errCode := none }

/-- The acceptance of a decoded command (R226): BUSY first, then BAD_STATE when the command is not legal in the current
IN_STATE, else the command's effect. -/
def State.accept (s : State) (legal : Bool) (perform : State → State) : State :=
  if s.busy then s.raiseCmdError .busy
  else if legal then perform s
  else s.raiseCmdError .badState

/-- Release(): the block no longer holds the binding, and the host sees it once (20_memory.md R69). -/
def State.release (s : State) : State :=
  { s with binding := .notHeld, history := s.history ++ [.release] }

/-- Take the input binding (R150): the source on the port, if the host has connected one (20_memory.md R65). Logs 3, 4. -/
def State.takeBinding (s : State) : State :=
  { s with
    binding := match s.connected with
      | some input => .source input 0
      | none => .unconnected
    connected := none }

/-- OutWrite(b): one payload byte to the host (20_memory.md R71). -/
def State.outWrite (s : State) (b : Byte) : State :=
  { s with payloadOut := s.payloadOut ++ [b], history := s.history ++ [.outWrite b] }

/-- The answer a source gives when no byte remains (20_memory.md R66). -/
def termAnswer : Term → Answer
  | .endOfInput => .endOfInput
  | .error => .error

/-- What a source answers after `pos` BYTE answers (20_memory.md R66). -/
def sourceAnswer (input : Input) (pos : Nat) : Answer :=
  match input.data[pos]? with
  | some b => .byte b
  | none => termAnswer input.term

/-- InRead(), one transfer: the answer, and the state after the source gave it (20_memory.md R66, R70). An answer `none`
means that nothing answers, and then there is no engine step (R274). -/
def State.inRead (s : State) : Option Answer × State :=
  match s.binding with
  | .notHeld => (none, s)
  | .unconnected => (Config.unconnectedAnswer s.freeReads, { s with freeReads := s.freeReads + 1 })
  | .source input pos =>
    match sourceAnswer input pos with
    | .byte b => (some (.byte b), { s with binding := .source input (pos + 1) })
    | .endOfInput => (some .endOfInput, s)
    | .error => (some .error, s)

/-- finish(), the end of every frame command (41_frame_reader.md R166). -/
def State.finish (s : State) : State :=
  { s with phase := .idle, idx := 0, busy := false }

/-- FRAME_STATUS <- 0 and the frame result registers <- 0, a part of OPEN (R150) and of frame_begin (R155). -/
def State.clearFrameResults (s : State) : State :=
  { s with
    outcome := .none, verify := false, badLen := false, badPay := false, stopPhase := .idle
    length := 0, lenCksumStored := 0, lenCksumCalc := 0, payCksumStored := 0, payCksumCalc := 0 }

/-- The counters and offsets of a RunSummary start from 0 (R150). -/
def State.clearSummary (s : State) : State :=
  { s with
    recordsChecked := 0, badLenCount := 0, badPayCount := 0, recordsSkipped := 0
    streamOffset := 0, frameStart := 0 }

/-- frame_begin(op), the acceptance effect of NEXT and of SKIP (41_frame_reader.md R155). -/
def State.frameBegin (s : State) (op : FrameOp) : State :=
  let s : State := s.clearFrameResults.clearCmdError
  { s with
    op := op, verify := op == .verify
    frameStart := s.streamOffset
    phase := .len, idx := 0
    lbuf := 0, lcs := 0, pcs := 0, remaining := 0
    lenAcc := crcInit, payAcc := crcInit
    busy := true }

/-- The reset input is asserted (70_reset_and_hazards.md R260, R262): every element of the block at its reset value, the
host's connection taken as released. The history and the moves still to come are not the block's. Logs 4, 9, 10. -/
def State.assertReset (s : State) : State :=
  { State.reset with
    history := s.history ++ [.reset], freeReads := s.freeReads, pending := s.pending }

end Sys2Proof.Machine
end

