-- ==== Sys2Proof/Machine/ChecksumCommands.lean ====
section
/-! DEFINITION. The Checksum Engine's commands CKS_INIT and CKS_BYTE (40_checksum.md R125, R126), accepted in every
IN_STATE while BUSY = 0 (60_exceptions.md R226). -/

namespace Sys2Proof.Machine

/-- The effect of an accepted CKS_INIT (R125). -/
def State.performCksInit (s : State) : State :=
  { s.clearCmdError with cksAcc := crcInit }

/-- The effect of an accepted CKS_BYTE (R126). -/
def State.performCksByte (s : State) (b : Byte) : State :=
  { s.clearCmdError with cksAcc := crcUpd s.cksAcc b }

/-- CKS_INIT (R125). -/
def execCksInit (s : State) : Host.Outcome State Fault Refusal :=
  .next (s.accept true State.performCksInit)

/-- CKS_BYTE (R126). -/
def execCksByte (b : Byte) (s : State) : Host.Outcome State Fault Refusal :=
  .next (s.accept true fun s => s.performCksByte b)

end Sys2Proof.Machine
end

