-- ==== Sys2Proof/Machine/Engine.lean ====
section
/-! DEFINITION. The framing engine that NEXT and SKIP share (41_frame_reader.md R154, R156 to R168; 42_fast_path.md
R201). -/

namespace Sys2Proof.Machine

/-- verify_and_count() (41_frame_reader.md R168). -/
def State.verifyAndCount (s : State) : State :=
  { s with
    lenCksumCalc := maskedOfAcc s.lenAcc
    payCksumCalc := maskedOfAcc s.payAcc
    badLen := maskedOfAcc s.lenAcc != s.lcs
    badPay := maskedOfAcc s.payAcc != s.pcs
    recordsChecked := s.recordsChecked + 1
    badLenCount := if maskedOfAcc s.lenAcc ≠ s.lcs then s.badLenCount + 1 else s.badLenCount
    badPayCount := if maskedOfAcc s.payAcc ≠ s.pcs then s.badPayCount + 1 else s.badPayCount }

/-- skip_count() (42_fast_path.md R201). -/
def State.skipCount (s : State) : State :=
  { s with recordsSkipped := s.recordsSkipped + 1 }

/-- complete_frame() (41_frame_reader.md R167). -/
def State.completeFrame (s : State) : State :=
  let s : State := match s.op with
    | .verify => s.verifyAndCount
    | .skip => s.skipCount
  { s with outcome := .frame }.finish

/-- clean_end() (41_frame_reader.md R161). -/
def State.cleanEnd (s : State) : State :=
  { s with outcome := .endOfStream, inState := .ended }.release.finish

/-- stop_truncated() (41_frame_reader.md R162). -/
def State.stopTruncated (s : State) : State :=
  { s with outcome := .truncated, stopPhase := s.phase, inState := .truncated }.release.finish

/-- stop_unreadable() (41_frame_reader.md R163). -/
def State.stopUnreadable (s : State) : State :=
  { s with outcome := .unreadable, stopPhase := s.phase, inState := .unreadable }.release.finish

/-- len_byte(b) (41_frame_reader.md R157). -/
def State.lenByte (s : State) (b : Byte) : State :=
  let lbuf := placeByte s.lbuf s.idx.toNat b
  let s : State := { s with
    lbuf := lbuf
    lenAcc := if s.op = .verify then crcUpd s.lenAcc b else s.lenAcc }
  if s.idx = 7 then { s with length := lbuf, remaining := lbuf, phase := .lcrc, idx := 0 }
  else { s with idx := s.idx + 1 }

/-- lcrc_byte(b) (41_frame_reader.md R158). -/
def State.lcrcByte (s : State) (b : Byte) : State :=
  let lcs := placeByte s.lcs s.idx.toNat b
  let s : State := { s with lcs := lcs }
  if s.idx = 3 then
    { s with lenCksumStored := lcs, idx := 0, phase := if s.remaining = 0 then .pcrc else .pay }
  else { s with idx := s.idx + 1 }

/-- pay_byte(b) (41_frame_reader.md R159). -/
def State.payByte (s : State) (b : Byte) : State :=
  let s : State := s.outWrite b
  let s : State := { s with
    payAcc := if s.op = .verify then crcUpd s.payAcc b else s.payAcc
    remaining := s.remaining - 1 }
  if s.remaining = 0 then { s with phase := .pcrc, idx := 0 } else s

/-- pcrc_byte(b) (41_frame_reader.md R160). -/
def State.pcrcByte (s : State) (b : Byte) : State :=
  let pcs := placeByte s.pcs s.idx.toNat b
  let s : State := { s with pcs := pcs }
  if s.idx = 3 then { s with payCksumStored := pcs }.completeFrame
  else { s with idx := s.idx + 1 }

/-- BYTE(b): STREAM_OFFSET first (41_frame_reader.md R156), then the action of the phase (R154). -/
def State.onByte (s : State) (b : Byte) : State :=
  let s : State := { s with streamOffset := s.streamOffset + 1 }
  match s.phase with
  | .idle => s
  | .len => s.lenByte b
  | .lcrc => s.lcrcByte b
  | .pay => s.payByte b
  | .pcrc => s.pcrcByte b

/-- END: a clean end at a frame boundary, a truncation anywhere else (41_frame_reader.md R154, R161, R162). -/
def State.onEnd (s : State) : State :=
  if s.phase = .len ∧ s.idx = 0 then s.cleanEnd else s.stopTruncated

/-- What the engine does with one answer (41_frame_reader.md R154). -/
def State.onAnswer (s : State) : Answer → State
  | .byte b => s.onByte b
  | .endOfInput => s.onEnd
  | .error => s.stopUnreadable

/-- engine_step() (41_frame_reader.md R154): no step while BUSY = 0 (R246), and none while nothing answers
(70_reset_and_hazards.md R274); R154 says that phase IDLE never occurs with BUSY = 1 (log 11). -/
def engineStep (s : State) : Host.Outcome State Fault Refusal :=
  if s.busy = false then .next s
  else if s.phase = .idle then .fault .engineStepInIdlePhase
  else
    match s.inRead with
    | (none, s') => .next s'
    | (some a, s') => .next (s'.onAnswer a)

end Sys2Proof.Machine
end

