-- ==== Sys2Proof/Machine/FastPathCommands.lean ====
section
/-! DEFINITION. The Fast-Path Iterator's command SKIP (42_fast_path.md R200), with its acceptance (60_exceptions.md
R226). -/

namespace Sys2Proof.Machine

/-- SKIP (R200): BAD_STATE unless IN_STATE = OPEN. -/
def execSkip (s : State) : Host.Outcome State Fault Refusal :=
  .next (s.accept (s.inState == .opened) fun s => s.frameBegin .skip)

end Sys2Proof.Machine
end

