-- ==== Sys2Proof/Machine/ReaderCommands.lean ====
section
/-! DEFINITION. The Record Stream Reader's commands OPEN, NEXT and CLOSE (41_frame_reader.md R150, R151, R153), each with
its acceptance (60_exceptions.md R226). -/

namespace Sys2Proof.Machine

/-- The effect of an accepted OPEN (R150). -/
def State.performOpen (s : State) : State :=
  { s.takeBinding.clearSummary.clearFrameResults.clearCmdError with inState := .opened, payloadOut := [] }

/-- The effect of an accepted CLOSE (R153). -/
def State.performClose (s : State) : State :=
  { s with inState := .abandoned }.release.clearCmdError

/-- OPEN (R150): BAD_STATE when IN_STATE = OPEN. -/
def execOpen (s : State) : Host.Outcome State Fault Refusal :=
  .next (s.accept (s.inState != .opened) State.performOpen)

/-- NEXT (R151): BAD_STATE unless IN_STATE = OPEN. -/
def execNext (s : State) : Host.Outcome State Fault Refusal :=
  .next (s.accept (s.inState == .opened) fun s => s.frameBegin .verify)

/-- CLOSE (R153): BAD_STATE unless IN_STATE = OPEN. -/
def execClose (s : State) : Host.Outcome State Fault Refusal :=
  .next (s.accept (s.inState == .opened) State.performClose)

end Sys2Proof.Machine
end

