-- ==== Sys2Proof/Machine/Dispatch.lean ====
section
/-! DEFINITION. exec, the meaning of every command (60_exceptions.md R226). -/

namespace Sys2Proof.Machine

def exec (i : Instr) (s : State) : Host.Outcome State Fault Refusal :=
  match i with
  | .openInput => Sys2Proof.Machine.execOpen s
  | .nextFrame => Sys2Proof.Machine.execNext s
  | .skipFrame => Sys2Proof.Machine.execSkip s
  | .closeInput => Sys2Proof.Machine.execClose s
  | .cksInit => Sys2Proof.Machine.execCksInit s
  | .cksByte b => Sys2Proof.Machine.execCksByte b s

end Sys2Proof.Machine
end

