-- ==== Sys2Proof/WellFormed.lean ====
section
/-! DEFINITION. Which command fields are a command, and which instructions are well-formed
(30_encoding.md R100 to R104). -/

namespace Sys2Proof

/-- The six assigned operation codes (30_encoding.md R101); every other one is reserved (R103). -/
def assignedOpcodes : List Byte := [0x01, 0x02, 0x03, 0x04, 0x10, 0x11]

/-- OPC is assigned (R103). -/
def CmdFields.opcodeAssigned (f : CmdFields) : Bool := assignedOpcodes.contains f.opc

/-- RSVD is 0, and IMM8 is 0 unless OPC is CKS_BYTE's 0x11 (R104). -/
def CmdFields.reservedClear (f : CmdFields) : Bool := f.rsvd == 0 && (f.opc == 0x11 || f.imm8 == 0)

/-- The fields of a command that decodes (R105). -/
def CmdFields.wellFormed (f : CmdFields) : Bool := f.opcodeAssigned && f.reservedClear

/-- An instruction is well-formed when its operand fits IMM8, a raw 8-bit value (R102). The operand's type has
that width, so that no ill-formed instruction can be written; ill-formed command fields can. -/
def Instr.wellFormed : Instr → Bool
  | .openInput => true
  | .nextFrame => true
  | .skipFrame => true
  | .closeInput => true
  | .cksInit => true
  | .cksByte b => decide (b.toNat ≤ 0xFF)

end Sys2Proof
end

