-- ==== Sys2Proof/Decode.lean ====
section
/-! DEFINITION. The command word: its fields, the total decoder (30_encoding.md R105) and the encoder
(R100 to R102). -/

namespace Sys2Proof

/-- What a command word decodes to (R105): a command, or a rejection by its code. -/
inductive Decoded where
  | cmd (i : Instr)
  | reject (c : Rejection)
deriving DecidableEq, Repr

/-- OPC is bits [7:0], IMM8 bits [15:8], RSVD bits [31:16] (R100). -/
def fieldsOf (w : Word) : CmdFields where
  opc  := w.extractLsb' 0 8
  imm8 := w.extractLsb' 8 8
  rsvd := w.extractLsb' 16 16

/-- The command of an opcode, with IMM8 as its operand (R101); no other opcode is assigned (R103). -/
def instrOf (opc imm8 : Byte) : Option Instr :=
  if opc = 0x01 then some .openInput
  else if opc = 0x02 then some .nextFrame
  else if opc = 0x03 then some .skipFrame
  else if opc = 0x04 then some .closeInput
  else if opc = 0x10 then some .cksInit
  else if opc = 0x11 then some (.cksByte imm8)
  else none

/-- decode(w), total over every 32-bit word (R105): first the opcode, then RSVD, then an unused IMM8. -/
def decode (w : Word) : Decoded :=
  let f := fieldsOf w
  match instrOf f.opc f.imm8 with
  | none => .reject .rsvdOpcode
  | some i =>
    if f.rsvd ≠ 0 then .reject .rsvdBits
    else if f.opc ≠ 0x11 ∧ f.imm8 ≠ 0 then .reject .rsvdBits
    else .cmd i

/-- The operation code of a command (R101). -/
def opcodeOf : Instr → Byte
  | .openInput => 0x01
  | .nextFrame => 0x02
  | .skipFrame => 0x03
  | .closeInput => 0x04
  | .cksInit => 0x10
  | .cksByte _ => 0x11

/-- The IMM8 field of a command: the byte CKS_BYTE feeds, 0 for every other (R102). -/
def imm8Of : Instr → Byte
  | .cksByte b => b
  | .openInput => 0
  | .nextFrame => 0
  | .skipFrame => 0
  | .closeInput => 0
  | .cksInit => 0

/-- The command word of an instruction: OPC in bits [7:0], IMM8 in bits [15:8], RSVD = 0 (R100). -/
def encode (i : Instr) : Word := (opcodeOf i).setWidth 32 ||| ((imm8Of i).setWidth 32 <<< 8)

/-- The instruction the decoder reads from a word of nbits bits; a command is one 32-bit word (R100). -/
def decodeTableWord (nbits w : Nat) : Option Instr :=
  match decode (BitVec.ofNat 32 (w % 2 ^ nbits)) with
  | .cmd i => some i
  | .reject _ => none

end Sys2Proof
end

