-- ==== Sys2Proof/Machine/Window.lean ====
section
/-! DEFINITION. The register window (10_state.md R21, R42, R43; 20_memory.md R60 to R64, R73). -/

namespace Sys2Proof.Machine

/-- The registers of the window (10_state.md R21). -/
inductive Reg where
  | cmd
  | status
  | frameStatus
  | lengthLo
  | lengthHi
  | lenCksumStored
  | lenCksumCalc
  | payCksumStored
  | payCksumCalc
  | recordsCheckedLo
  | recordsCheckedHi
  | badLenCountLo
  | badLenCountHi
  | badPayCountLo
  | badPayCountHi
  | recordsSkippedLo
  | recordsSkippedHi
  | streamOffsetLo
  | streamOffsetHi
  | frameStartLo
  | frameStartHi
  | cksResult
deriving DecidableEq, Repr

/-- The table of R21: offset and register. Every offset not listed is reserved (R43). -/
def regMap : List (Nat × Reg) :=
  [(0x00, .cmd), (0x04, .status), (0x08, .frameStatus),
   (0x10, .lengthLo), (0x14, .lengthHi),
   (0x18, .lenCksumStored), (0x1C, .lenCksumCalc), (0x20, .payCksumStored), (0x24, .payCksumCalc),
   (0x28, .recordsCheckedLo), (0x2C, .recordsCheckedHi),
   (0x30, .badLenCountLo), (0x34, .badLenCountHi),
   (0x38, .badPayCountLo), (0x3C, .badPayCountHi),
   (0x40, .recordsSkippedLo), (0x44, .recordsSkippedHi),
   (0x48, .streamOffsetLo), (0x4C, .streamOffsetHi),
   (0x50, .frameStartLo), (0x54, .frameStartHi),
   (0x58, .cksResult)]

/-- The register at a byte offset of the window, if one is listed (R21). -/
def regAt (off : Nat) : Option Reg := regMap.lookup off

/-- CKS_RESULT, combinational (10_state.md R42). -/
def State.cksResult (s : State) : Word := maskedOfAcc s.cksAcc

/-- What a register reads as (R21 to R42). -/
def State.readReg (s : State) : Reg → Word
  | .cmd => 0
  | .status => s.statusWord
  | .frameStatus => s.frameStatusWord
  | .lengthLo => lowHalf s.length
  | .lengthHi => highHalf s.length
  | .lenCksumStored => s.lenCksumStored
  | .lenCksumCalc => s.lenCksumCalc
  | .payCksumStored => s.payCksumStored
  | .payCksumCalc => s.payCksumCalc
  | .recordsCheckedLo => lowHalf s.recordsChecked
  | .recordsCheckedHi => highHalf s.recordsChecked
  | .badLenCountLo => lowHalf s.badLenCount
  | .badLenCountHi => highHalf s.badLenCount
  | .badPayCountLo => lowHalf s.badPayCount
  | .badPayCountHi => highHalf s.badPayCount
  | .recordsSkippedLo => lowHalf s.recordsSkipped
  | .recordsSkippedHi => highHalf s.recordsSkipped
  | .streamOffsetLo => lowHalf s.streamOffset
  | .streamOffsetHi => highHalf s.streamOffset
  | .frameStartLo => lowHalf s.frameStart
  | .frameStartHi => highHalf s.frameStart
  | .cksResult => s.cksResult

/-- The window's size in bytes (20_memory.md R60). -/
def windowSize : Nat := 0x100

/-- The offset of a host address in the window, none outside it (20_memory.md R60). Log 7. -/
def windowOffset (addr : Nat) : Option Nat :=
  if Config.regBase ≤ addr ∧ addr - Config.regBase < windowSize then some (addr - Config.regBase) else none

/-- Only aligned 32-bit accesses are defined (20_memory.md R61). -/
def accessDefined (off width : Nat) : Bool := width == 4 && off % 4 == 0

/-- MemRead inside the window: the register's value; 0 for a misaligned or narrower or wider access (R61) and for a
reserved offset (R43). -/
def State.memRead (s : State) (off width : Nat) : Word :=
  if accessDefined off width then
    match regAt off with
    | some r => s.readReg r
    | none => 0
  else 0

/-- The byte a byte-addressing host sees at a byte offset of the window (20_memory.md R62). -/
def State.windowByte (s : State) (a : Nat) : Byte := byteLane (s.memRead (4 * (a / 4)) 4) (a % 4)

/-- The one write with an effect: an aligned 32-bit write to CMD (20_memory.md R64). -/
def writesCmd (off width : Nat) : Bool := accessDefined off width && regAt off == some .cmd

/-- A read of the host (20_memory.md R60, R64): the value goes to the host and nothing of the block changes. Outside the
window the platform decides (R61, U2): refused, log 6. -/
def hostRead (off width : Nat) (s : State) : Host.Outcome State Fault Refusal :=
  if off < windowSize then
    .next { s with history := s.history ++ [.readData off width (s.memRead off width)] }
  else .refused (.accessOutsideWindow off)

/-- A write of the host to anything but CMD: ignored (R43, R61). Outside the window: refused, log 6. -/
def hostWriteIgnored (off : Nat) (s : State) : Host.Outcome State Fault Refusal :=
  if off < windowSize then .next s else .refused (.accessOutsideWindow off)

/-- The host connects a source to the input port (20_memory.md R65). While IN_STATE = OPEN the spec gives this no step
(U5): refused, log 5. -/
def hostBind (input : Input) (s : State) : Host.Outcome State Fault Refusal :=
  if s.inState = .opened then .refused .rebindWhileOpen
  else .next { s with connected := some input }

end Sys2Proof.Machine
end

