-- ==== Sys2Proof/Machine/Fetch.lean ====
section
/-! DEFINITION. Which agent moves next (20_memory.md R75). The block fetches no instruction from a memory (R79): a command
arrives as the host's write to CMD and is decoded when written (60_exceptions.md R226). Logs 1 and 2. -/

namespace Sys2Proof.Machine

/-- What the next move amounts to: a decoded command to perform, or a step already settled. -/
inductive Turn where
  /-- A write to CMD decoded to this command; the state is the one the command finds. -/
  | command (i : Instr) (s : State)
  /-- Any other move: its outcome. -/
  | settled (o : Host.Outcome State Fault Refusal)

/-- A write to CMD: decode it, reject it by its code or hand the command on (R226). -/
def commandTurn (w : Word) (s : State) : Turn :=
  match decode w with
  | .cmd i => .command i s
  | .reject c => .settled (.next (s.raiseCmdError c))

/-- One move of an agent (R75). -/
def takeMove (m : Move) (s : State) : Turn :=
  match m with
  | .write off width v => if writesCmd off width then commandTurn v s else .settled (hostWriteIgnored off s)
  | .read off width => .settled (hostRead off width s)
  | .bind input => .settled (hostBind input s)
  | .reset => .settled (.next s.assertReset)
  | .answer => .settled (engineStep s)

/-- The next move is taken from the head of the pending moves. With none pending nothing moves: an idle block takes no
steps (60_exceptions.md R246) and a busy one waits for its source (70_reset_and_hazards.md R274). -/
def fetch (s : State) : Turn :=
  match s.pending with
  | [] => .settled (.next s)
  | m :: rest => takeMove m { s with pending := rest }

/-- The host's next move is this write of a command word to CMD. -/
def State.withCommandWord (s : State) (w : Word) : State :=
  { s with pending := .write 0x00 4 w :: s.pending }

end Sys2Proof.Machine
end

