-- ==== Sys2Proof/Machine/HostProgram.lean ====
section
/-! DEFINITION. Host programs: the pseudo-instructions and their expansions (30_encoding.md R106, R107). -/

namespace Sys2Proof.Machine

/-- `wr CMD, word` for a command's word: open, next, skip, close, cks.init and cks.byte b (R107). -/
def wrCmd (i : Instr) : Move := .write 0x00 4 (encode i)

/-- `rd REG` at the register's offset in R21 (R106). -/
def rd (off : Nat) : Move := .read off 4

/-- `rd64 X`: X_LO at the offset, then X_HI at the offset + 4 (R107, 20_memory.md R63). -/
def rd64 (off : Nat) : List Move := [rd off, rd (off + 4)]

/-- n turns of the loop `wait`: between two reads of STATUS the source answers once (R107). Log 15. -/
def waitTurns (n : Nat) : List Move := (List.replicate n [.answer, rd 0x04]).flatten

/-- The input source answers n transfers in a row. -/
def answers (n : Nat) : List Move := List.replicate n .answer

end Sys2Proof.Machine
end

