-- ==== Sys2Proof/Machine/Instances.lean ====
section
/-! DEFINITION. Several independent blocks (60_exceptions.md R244): each has its own registers, ports and state, nothing is
shared, and their steps interleave freely. Log 14. -/

namespace Sys2Proof.Machine

/-- The blocks of a platform. -/
structure System where
  blocks : List State
deriving DecidableEq, Repr

/-- NUM_INSTANCES blocks after reset (R244). Each counts its free answers from 0 in the one sequence of
`Config.unconnectedAnswer`: DESIGN CHOICE, logs 3 and 14. -/
def System.reset : System := { blocks := List.replicate Config.numInstances State.reset }

/-- One step of block k; a number that names no block has no step. -/
def System.stepBlock (k : Nat) (y : System) : Host.Outcome System Fault Refusal :=
  match y.blocks[k]? with
  | none => .next y
  | some s =>
    match step s with
    | .next s' => .next { blocks := y.blocks.set k s' }
    | .fault r => .fault r
    | .refused r => .refused r

end Sys2Proof.Machine
end

