-- ==== Sys2Proof/Machine/Frame.lean ====
section
/-! DEFINITION. The frame wire format, read from a byte sequence at once (30_encoding.md R90 to R95): what the engine
computes one byte at a time. -/

namespace Sys2Proof.Machine

/-- One record of the wire format (R90). -/
structure Frame where
  length : DWord
  lengthChecksum : Word
  payload : List Byte
  payloadChecksum : Word
deriving DecidableEq, Repr

/-- frame_size = 8 + 4 + L + 4 (R94). -/
def frameSize (length : DWord) : Nat := 16 + length.toNat

/-- The length field at the start of a byte sequence (R91). -/
def lengthField (bytes : List Byte) : DWord := le 64 (bytes.take 8)

/-- The frame at the start of a byte sequence, if it is well-formed there: the sequence holds at least 16 + L bytes (R90 to
R92, R95). -/
def parseFrame (bytes : List Byte) : Option Frame :=
  let l := lengthField bytes
  if bytes.length < 16 ∨ bytes.length < frameSize l then none
  else some {
    length := l
    lengthChecksum := le 32 ((bytes.drop 8).take 4)
    payload := (bytes.drop 12).take l.toNat
    payloadChecksum := le 32 ((bytes.drop (12 + l.toNat)).take 4) }

/-- The length checksum matches the 8 length bytes (R93, R95). -/
def Frame.lengthOk (f : Frame) : Bool := f.lengthChecksum == maskedChecksum (leBytes 8 f.length)

/-- The payload checksum matches the payload (R93, R95). -/
def Frame.payloadOk (f : Frame) : Bool := f.payloadChecksum == maskedChecksum f.payload

/-- A well-formed frame is valid when both checksums match (R95). -/
def Frame.valid (f : Frame) : Bool := f.lengthOk && f.payloadOk

end Sys2Proof.Machine
end

