-- ==== Sys2Proof/Machine/Summary.lean ====
section
/-! DEFINITION. The source's data model read from the block (00_scope.md R15, R17; 41_frame_reader.md R152; 60_exceptions.md
R222; 70_reset_and_hazards.md R277). -/

namespace Sys2Proof.Machine

/-- RunSummary, the per-input aggregate (00_scope.md R15). -/
structure RunSummary where
  recordsChecked : DWord
  badLengthCrcCount : DWord
  badPayloadCrcCount : DWord
  truncated : Bool
  /-- The phase of the stop, when the input ended TRUNCATED or UNREADABLE. -/
  error : Option Phase
deriving DecidableEq, Repr

/-- The map from registers to RunSummary (00_scope.md R17). -/
def State.runSummary (s : State) : RunSummary where
  recordsChecked := s.recordsChecked
  badLengthCrcCount := s.badLenCount
  badPayloadCrcCount := s.badPayCount
  truncated := s.inState == .truncated
  error := if s.inState = .truncated ∨ s.inState = .unreadable then some s.stopPhase else none

/-- ValidationOutcome (00_scope.md R15). -/
inductive ValidationOutcome where
  | valid
  | badLengthChecksum
  | badPayloadChecksum
  | truncated
  | unreadable
deriving DecidableEq, Repr

/-- The outcomes FRAME_STATUS reports: both bad checksums of one frame are two facts (10_state.md R29, R31; 41_frame_reader.md
R152). A clean end and a SKIP frame report none of them. -/
def State.validationOutcomes (s : State) : List ValidationOutcome :=
  match s.outcome with
  | .none => []
  | .frame =>
    (if s.frameValid then [.valid] else [])
      ++ (if s.badLen then [.badLengthChecksum] else [])
      ++ (if s.badPay then [.badPayloadChecksum] else [])
  | .endOfStream => []
  | .truncated => [.truncated]
  | .unreadable => [.unreadable]

/-- The 0-based index of the frame the outcome refers to, for the outcomes R222 lists (60_exceptions.md R222). -/
def State.recordIndex (s : State) : Option DWord :=
  match s.outcome with
  | .none => none
  | .frame => some (s.recordsChecked + s.recordsSkipped - 1)
  | .endOfStream => none
  | .truncated => some (s.recordsChecked + s.recordsSkipped)
  | .unreadable => some (s.recordsChecked + s.recordsSkipped)

/-- The run of one input has ended (70_reset_and_hazards.md R277). -/
def State.runEnded (s : State) : Bool := !s.busy && inStateTerminal s.inState

/-- No command of the run was rejected (60_exceptions.md R233). -/
def State.noCommandRejected (s : State) : Bool :=
  s.history.all fun e => match e with
    | .rejected _ => false
    | .release => true
    | .outWrite _ => true
    | .readData _ _ _ => true
    | .reset => true

/-- How many Release() events the history holds (20_memory.md R69). -/
def State.releaseCount (s : State) : Nat := s.history.count .release

/-- How many Rejected(code) events the history holds, of any code (60_exceptions.md R233). -/
def State.rejectedCount (s : State) : Nat :=
  (s.history.filter fun e => match e with
    | .rejected _ => true
    | .release => false
    | .outWrite _ => false
    | .readData _ _ _ => false
    | .reset => false).length

end Sys2Proof.Machine
end

