-- ==== Sys2Proof/Safety.lean ====
section
/-! DEFINITION. What holds of every state a run reaches, in the terms the statements use (10_state.md R24 to R35, R48, R51;
41_frame_reader.md R154, R164). -/

namespace Sys2Proof.Machine

/-- The control fields agree: BUSY, PHASE, IN_STATE, the binding, the outcome and the error field (10_state.md R24 to R27,
R29 to R32, R48, R51). -/
structure State.ControlInv (s : State) : Prop where
  /-- BUSY = 1 implies IN_STATE == OPEN (R51). -/
  busy_open : s.busy = true → s.inState = .opened
  /-- PHASE is IDLE exactly when BUSY = 0 (R27). -/
  idle_iff : s.phase = .idle ↔ s.busy = false
  /-- The binding is held exactly while IN_STATE is OPEN (R48, R69). -/
  held_iff : s.binding ≠ .notHeld ↔ s.inState = .opened
  /-- CMD_ERR is 1 exactly when ERR_CODE is not NONE (R25). -/
  err_iff : s.cmdErr = s.errCode.isSome
  /-- OUTCOME is NONE while a frame command is in progress (R30). -/
  busy_none : s.busy = true → s.outcome = .none
  /-- IN_STATE is ENDED exactly after OUTCOME END, TRUNCATED after TRUNCATED, UNREADABLE after UNREADABLE (R161 to R163). -/
  ended_iff : s.inState = .ended ↔ s.outcome = .endOfStream
  truncated_iff : s.inState = .truncated ↔ s.outcome = .truncated
  unreadable_iff : s.inState = .unreadable ↔ s.outcome = .unreadable
  /-- VERIFY tells the kind of the frame command in progress (R29, R155). -/
  busy_verify : s.busy = true → s.verify = (s.op == .verify)
  /-- BAD_LEN and BAD_PAY are 1 only after a NEXT that completed a frame (R29). -/
  bad_frame : s.badLen = true ∨ s.badPay = true → s.outcome = .frame ∧ s.verify = true
  /-- STOP_PHASE is NONE except after a stop (R32). -/
  stop_iff : s.stopPhase ≠ .idle ↔ s.outcome = .truncated ∨ s.outcome = .unreadable
  /-- st.idx is 0 to 3 in LCRC and PCRC (R44), and 0 in PAY and IDLE. -/
  idx_range : match s.phase with
    | .len => True
    | .lcrc => s.idx ≤ 3
    | .pcrc => s.idx ≤ 3
    | .pay => s.idx = 0
    | .idle => s.idx = 0

/-- IN_STATE == CLOSED implies that every counter and offset is 0 (10_state.md R51). -/
structure State.ClosedInv (s : State) : Prop where
  counters : s.inState = .closed → s.recordsChecked = 0 ∧ s.badLenCount = 0 ∧ s.badPayCount = 0 ∧ s.recordsSkipped = 0
  offsets : s.inState = .closed → s.streamOffset = 0 ∧ s.frameStart = 0

/-- STREAM_OFFSET is the number of bytes the current source has given (10_state.md R40), and the source has not been asked past
its term (20_memory.md R66, R68). -/
def State.OffsetInv (s : State) : Prop :=
  match s.binding with
  | .notHeld => True
  | .unconnected => True
  | .source input pos => pos ≤ input.data.length ∧ s.streamOffset = BitVec.ofNat 64 pos

/-- How far the frame in progress has been read, mod 2^64 (41_frame_reader.md R157 to R160, R164). -/
structure State.ProgressInv (s : State) : Prop where
  /-- The bytes of the partial frame received so far. -/
  received : match s.phase with
    | .idle => True
    | .len => s.streamOffset - s.frameStart = s.idx.setWidth 64
    | .lcrc => s.streamOffset - s.frameStart = 8 + s.idx.setWidth 64
    | .pay => s.streamOffset - s.frameStart = 12 + (s.length - s.remaining)
    | .pcrc => s.streamOffset - s.frameStart = 12 + s.length + s.idx.setWidth 64
  /-- LENGTH is 0 until the 8th length byte (10_state.md R33, 70_reset_and_hazards.md R271). -/
  length_zero : s.phase = .len → s.length = 0
  /-- LEN_CKSUM_STORED is 0 until the 4th length_checksum byte (R271). -/
  lcs_zero : s.phase = .len ∨ s.phase = .lcrc → s.lenCksumStored = 0
  /-- PAY_CKSUM_STORED and both CALC registers are 0 while a frame is being read (10_state.md R34, R35). -/
  results_zero : s.phase ≠ .idle → s.payCksumStored = 0 ∧ s.lenCksumCalc = 0 ∧ s.payCksumCalc = 0
  /-- In LCRC the whole payload remains. -/
  lcrc_remaining : s.phase = .lcrc → s.remaining = s.length
  /-- Phase PAY is entered only with st.remaining >= 1 (R159), and never with more than LENGTH. -/
  pay_remaining : s.phase = .pay → 0 < s.remaining ∧ s.remaining ≤ s.length

/-- The model's invariant. -/
structure State.Inv (s : State) : Prop where
  control : s.ControlInv
  closed : s.ClosedInv
  offset : s.OffsetInv
  progress : s.ProgressInv

/-- What SKIP and NEXT must agree on (42_fast_path.md R202): everything but VERIFY, BAD_LEN, BAD_PAY, the CALC registers, the
counters that tell the two apart, and the hidden elements that serve them. -/
structure State.SameFraming (s t : State) : Prop where
  busy : s.busy = t.busy
  cmdErr : s.cmdErr = t.cmdErr
  errCode : s.errCode = t.errCode
  inState : s.inState = t.inState
  phase : s.phase = t.phase
  outcome : s.outcome = t.outcome
  stopPhase : s.stopPhase = t.stopPhase
  length : s.length = t.length
  lenCksumStored : s.lenCksumStored = t.lenCksumStored
  payCksumStored : s.payCksumStored = t.payCksumStored
  streamOffset : s.streamOffset = t.streamOffset
  frameStart : s.frameStart = t.frameStart
  idx : s.idx = t.idx
  lbuf : s.lbuf = t.lbuf
  lcs : s.lcs = t.lcs
  pcs : s.pcs = t.pcs
  remaining : s.remaining = t.remaining
  cksAcc : s.cksAcc = t.cksAcc
  binding : s.binding = t.binding
  connected : s.connected = t.connected
  payloadOut : s.payloadOut = t.payloadOut
  history : s.history = t.history
  freeReads : s.freeReads = t.freeReads
  pending : s.pending = t.pending

/-- The registers of the window that describe frames and inputs hold the same values (20_memory.md R76). -/
def State.SameRegisters (s t : State) : Prop := ∀ r : Reg, s.readReg r = t.readReg r

end Sys2Proof.Machine
end

