-- ==== Sys2Proof/Certificates/Slice0/Obligations.lean ====
section
/-! DEFINITION. The statements for the provers. Each docstring names the rule of spec/ it formalises, or says what it rests on
where that is the model's own choice or an inference the spec marks as its own. -/

open Sys2Proof Sys2Proof.Machine

/-! ### Encoding -/

/-- 30_encoding.md R100 to R105: decoding an encoded well-formed instruction gives it back, and a word that decodes to a command
is the encoding of that command, so no bit of a word is dropped. -/
def Obligations.DecodeAndEncodeAgree : Prop :=
  (∀ i : Instr, i.wellFormed = true → decode (encode i) = .cmd i) ∧
  (∀ (w : Word) (i : Instr), decode w = .cmd i → i.wellFormed = true ∧ encode i = w)

/-- 30_encoding.md R101, R107: the words of the six commands, as the spec writes them, decode to them. -/
def Obligations.SpecWordsDecode : Prop :=
  decode 0x00000001 = .cmd .openInput ∧ decode 0x00000002 = .cmd .nextFrame ∧
  decode 0x00000003 = .cmd .skipFrame ∧ decode 0x00000004 = .cmd .closeInput ∧
  decode 0x00000010 = .cmd .cksInit ∧ decode 0x00006811 = .cmd (.cksByte 0x68) ∧
  decodeTableWord 32 0x0000FF11 = some (.cksByte 0xFF)

/-- 30_encoding.md R103: a write of a word whose OPC is 0x00, 0x05 to 0x0F or 0x12 to 0xFF is rejected with RSVD_OPCODE and has no
other effect, whatever the state. -/
def Obligations.ReservedOpcodeIsRejected : Prop :=
  ∀ (s : State) (w : Word) (rest : List Move),
    s.pending = .write 0x00 4 w :: rest →
    (let opc := (w.extractLsb' 0 8).toNat
     opc = 0x00 ∨ (0x05 ≤ opc ∧ opc ≤ 0x0F) ∨ (0x12 ≤ opc ∧ opc ≤ 0xFF)) →
    step s = .next { s with
      pending := rest, cmdErr := true, errCode := some .rsvdOpcode, history := s.history ++ [.rejected .rsvdOpcode] }

/-- 30_encoding.md R104: a write of a word with an assigned OPC is rejected with RSVD_BITS if w[31:16] is not 0, or if OPC is not
0x11 and w[15:8] is not 0; it has no other effect. -/
def Obligations.ReservedBitsAreRejected : Prop :=
  ∀ (s : State) (w : Word) (rest : List Move),
    s.pending = .write 0x00 4 w :: rest →
    w.extractLsb' 0 8 ∈ [0x01#8, 0x02#8, 0x03#8, 0x04#8, 0x10#8, 0x11#8] →
    (w.extractLsb' 16 16 ≠ 0 ∨ (w.extractLsb' 0 8 ≠ 0x11 ∧ w.extractLsb' 8 8 ≠ 0)) →
    step s = .next { s with
      pending := rest, cmdErr := true, errCode := some .rsvdBits, history := s.history ++ [.rejected .rsvdBits] }

/-! ### A step runs the decoded command -/

/-- 60_exceptions.md R226: when the host's next move is a write to CMD of a word that decodes to a command, the step is exec of that
command at the state with the move taken; in particular a state given its next command word by withFetchWord runs exactly it. -/
def Obligations.StepRunsDecodedCommand : Prop :=
  (∀ (s : State) (w : Word) (i : Instr) (rest : List Move),
    s.pending = .write 0x00 4 w :: rest → decode w = .cmd i → step s = exec i { s with pending := rest }) ∧
  (∀ (s : State) (i : Instr), step (s.withFetchWord 32 (encode i).toNat) = exec i s)

/-! ### The commands: completion, result and frame -/

/-- 41_frame_reader.md R150: an accepted OPEN with a source connected takes it with no byte read, opens the input, clears the
summary, the offsets, FRAME_STATUS, the result registers, PAYLOAD_OUT and the error field, and leaves everything else of the block (the
field `connected` is the model's own, log 4, and is not stated here). -/
def Obligations.OpenStartsFreshSummary : Prop :=
  ∀ (s : State) (input : Input), s.busy = false → s.inState ≠ .opened → s.connected = some input →
    ∃ t, exec .openInput s = .next t ∧ t = { s with
      binding := .source input 0, inState := .opened
      recordsChecked := 0, badLenCount := 0, badPayCount := 0, recordsSkipped := 0
      streamOffset := 0, frameStart := 0
      outcome := .none, verify := false, badLen := false, badPay := false, stopPhase := .idle
      length := 0, lenCksumStored := 0, lenCksumCalc := 0, payCksumStored := 0, payCksumCalc := 0
      payloadOut := [], cmdErr := false, errCode := none
      connected := t.connected }

/-- The model's choices (logs 3 and 4): an accepted OPEN with no source connected holds a binding of which nothing is known and has
all the other effects of 41_frame_reader.md R150, leaving everything else of the block; and an accepted OPEN that takes a source empties
the port. -/
def Obligations.OpenWithoutSourceHoldsUnknownBinding : Prop :=
  (∀ s : State, s.busy = false → s.inState ≠ .opened → s.connected = none →
    exec .openInput s = .next { s with
      binding := .unconnected, connected := none, inState := .opened
      recordsChecked := 0, badLenCount := 0, badPayCount := 0, recordsSkipped := 0
      streamOffset := 0, frameStart := 0
      outcome := .none, verify := false, badLen := false, badPay := false, stopPhase := .idle
      length := 0, lenCksumStored := 0, lenCksumCalc := 0, payCksumStored := 0, payCksumCalc := 0
      payloadOut := [], cmdErr := false, errCode := none }) ∧
  (∀ (s : State) (input : Input), s.busy = false → s.inState ≠ .opened → s.connected = some input →
    ∃ t, exec .openInput s = .next t ∧ t.binding = .source input 0 ∧ t.connected = none)

/-- 41_frame_reader.md R155 (R151, 42_fast_path.md R200): an accepted NEXT runs frame_begin(VERIFY), an accepted SKIP frame_begin(SKIP),
and neither changes anything else. -/
def Obligations.NextAndSkipBeginAFrame : Prop :=
  ∀ s : State, s.busy = false → s.inState = .opened →
    (let begun (op : FrameOp) (verify : Bool) : State := { s with
       op := op, verify := verify
       outcome := .none, badLen := false, badPay := false, stopPhase := .idle
       length := 0, lenCksumStored := 0, lenCksumCalc := 0, payCksumStored := 0, payCksumCalc := 0
       frameStart := s.streamOffset
       phase := .len, idx := 0, lbuf := 0, lcs := 0, pcs := 0, remaining := 0
       lenAcc := 0xFFFFFFFF, payAcc := 0xFFFFFFFF
       busy := true, cmdErr := false, errCode := none }
     exec .nextFrame s = .next (begun .verify true) ∧ exec .skipFrame s = .next (begun .skip false))

/-- 41_frame_reader.md R153: an accepted CLOSE sets ABANDONED, emits Release() (after which no binding is held, 20_memory.md R69),
clears the error field and changes nothing else: the partial summary stays readable. -/
def Obligations.CloseAbandonsAndReleases : Prop :=
  ∀ s : State, s.busy = false → s.inState = .opened →
    exec .closeInput s = .next { s with
      inState := .abandoned, binding := .notHeld, history := s.history ++ [.release]
      cmdErr := false, errCode := none }

/-- 40_checksum.md R125, R126: accepted in every IN_STATE while BUSY = 0, CKS_INIT sets the accumulator to 0xFFFFFFFF and CKS_BYTE feeds
its byte to it; both clear the error field and touch nothing of the frame reader. -/
def Obligations.ChecksumCommandsDriveTheAccumulator : Prop :=
  ∀ (s : State) (b : Byte), s.busy = false →
    exec .cksInit s = .next { s with cksAcc := 0xFFFFFFFF, cmdErr := false, errCode := none } ∧
    exec (.cksByte b) s = .next { s with cksAcc := crcUpd s.cksAcc b, cmdErr := false, errCode := none }

/-! ### Rejection -/

/-- 60_exceptions.md R226, 70_reset_and_hazards.md R270: a command written while BUSY = 1 is rejected with BUSY; while BUSY = 0, NEXT, SKIP
and CLOSE with IN_STATE other than OPEN, and OPEN with IN_STATE OPEN, are rejected with BAD_STATE; nothing else changes. -/
def Obligations.RejectedCommandsChangeNothingElse : Prop :=
  ∀ (s : State) (i : Instr),
    (s.busy = true →
      exec i s = .next { s with cmdErr := true, errCode := some .busy, history := s.history ++ [.rejected .busy] }) ∧
    (s.busy = false →
      ((i = .nextFrame ∨ i = .skipFrame ∨ i = .closeInput) ∧ s.inState ≠ .opened ∨
        i = .openInput ∧ s.inState = .opened) →
      exec i s = .next { s with
        cmdErr := true, errCode := some .badState, history := s.history ++ [.rejected .badState] })

/-- 60_exceptions.md R227: a write to CMD that meets several conditions reports the first in the order RSVD_OPCODE, RSVD_BITS, BUSY,
BAD_STATE, and one that meets none reports no error. -/
def Obligations.RejectionPriority : Prop :=
  ∀ (s : State) (w : Word) (rest : List Move), s.pending = .write 0x00 4 w :: rest →
    ∃ t, step s = .next t ∧ t.errCode =
      (let opc := w.extractLsb' 0 8
       if opc ∉ [0x01#8, 0x02#8, 0x03#8, 0x04#8, 0x10#8, 0x11#8] then some .rsvdOpcode
       else if w.extractLsb' 16 16 ≠ 0 ∨ (opc ≠ 0x11 ∧ w.extractLsb' 8 8 ≠ 0) then some .rsvdBits
       else if s.busy = true then some .busy
       else if (opc ∈ [0x02#8, 0x03#8, 0x04#8] ∧ s.inState ≠ .opened) ∨ (opc = 0x01 ∧ s.inState = .opened) then
         some .badState
       else none)

/-- 10_state.md R25, 60_exceptions.md R233: after every write to CMD, either it was rejected, CMD_ERR is 1, ERR_CODE holds the code and
the history gains exactly Rejected(code), or it was accepted, CMD_ERR is 0, ERR_CODE is NONE and no rejection is recorded. -/
def Obligations.EveryRejectionIsObservable : Prop :=
  ∀ (s : State) (w : Word) (rest : List Move), s.pending = .write 0x00 4 w :: rest →
    ∃ t, step s = .next t ∧
      ((∃ c, t.cmdErr = true ∧ t.errCode = some c ∧ t.history = s.history ++ [.rejected c]) ∨
       (t.cmdErr = false ∧ t.errCode = none ∧ t.rejectedCount = s.rejectedCount))

/-- 60_exceptions.md R229: an engine step raises no CmdError, and a CMD write during a frame command is rejected (with BUSY when its
word is a command) without disturbing the frame command: nothing but the error field and the history changes. -/
def Obligations.BusyFrameCommandIsUndisturbed : Prop :=
  (∀ (s t : State) (rest : List Move), s.pending = .answer :: rest → step s = .next t →
    t.cmdErr = s.cmdErr ∧ t.errCode = s.errCode ∧ t.rejectedCount = s.rejectedCount) ∧
  (∀ (s : State) (w : Word) (rest : List Move), s.pending = .write 0x00 4 w :: rest → s.busy = true →
    ∃ c, step s = .next { s with
        pending := rest, cmdErr := true, errCode := some c, history := s.history ++ [.rejected c] } ∧
      (∀ i, decode w = .cmd i → c = .busy))

/-! ### The engine, step by step -/

/-- 20_memory.md R66: with p BYTE answers given, the source answers the byte at position p while p < len(data), and its term at
p = len(data). -/
def Obligations.SourceAnswersInOrder : Prop :=
  (∀ (s : State) (input : Input) (p : Nat) (h : p < input.data.length), s.binding = .source input p →
    s.inRead = (some (.byte (input.data[p]'h)), { s with binding := .source input (p + 1) })) ∧
  (∀ (s : State) (input : Input), s.binding = .source input input.data.length →
    s.inRead = (some (match input.term with | .endOfInput => .endOfInput | .error => .error), s))

/-- 41_frame_reader.md R156: an engine step that receives BYTE(b) increments STREAM_OFFSET by 1, one that receives END or ERROR leaves
it; so in every state with the invariant it is the number of bytes the source has given since OPEN (mod 2^64). -/
def Obligations.StreamOffsetCountsBytes : Prop :=
  (∀ (s : State) (input : Input) (p : Nat) (rest : List Move),
    s.pending = .answer :: rest → s.busy = true → s.phase ≠ .idle → s.binding = .source input p →
    ∃ t, step s = .next t ∧
      (p < input.data.length → t.streamOffset = s.streamOffset + 1 ∧ t.binding = .source input (p + 1)) ∧
      (input.data.length ≤ p → t.streamOffset = s.streamOffset ∧ t.binding = .notHeld)) ∧
  (∀ (s : State) (input : Input) (p : Nat), s.Inv → s.binding = .source input p →
    s.streamOffset = BitVec.ofNat 64 p)

/-- 41_frame_reader.md R157: one byte in phase LEN, from any source position. -/
def Obligations.LengthByteIsCollected : Prop :=
  ∀ (s : State) (input : Input) (p : Nat) (b : Byte) (rest : List Move),
    s.pending = .answer :: rest → s.busy = true → s.phase = .len →
    s.binding = .source input p → input.data[p]? = some b →
    step s = .next { s with
      pending := rest, binding := .source input (p + 1), streamOffset := s.streamOffset + 1
      lbuf := placeByte s.lbuf s.idx.toNat b
      lenAcc := if s.op = .verify then crcUpd s.lenAcc b else s.lenAcc
      length := if s.idx = 7 then placeByte s.lbuf s.idx.toNat b else s.length
      remaining := if s.idx = 7 then placeByte s.lbuf s.idx.toNat b else s.remaining
      phase := if s.idx = 7 then .lcrc else .len
      idx := if s.idx = 7 then 0 else s.idx + 1 }

/-- 41_frame_reader.md R158: one byte in phase LCRC; and R160 before the 4th byte: one in phase PCRC only joins st.pcs. -/
def Obligations.ChecksumFieldBytesAreCollected : Prop :=
  ∀ (s : State) (input : Input) (p : Nat) (b : Byte) (rest : List Move),
    s.pending = .answer :: rest → s.busy = true →
    s.binding = .source input p → input.data[p]? = some b →
    (s.phase = .lcrc → step s = .next { s with
      pending := rest, binding := .source input (p + 1), streamOffset := s.streamOffset + 1
      lcs := placeByte s.lcs s.idx.toNat b
      lenCksumStored := if s.idx = 3 then placeByte s.lcs s.idx.toNat b else s.lenCksumStored
      phase := if s.idx = 3 then (if s.remaining = 0 then .pcrc else .pay) else .lcrc
      idx := if s.idx = 3 then 0 else s.idx + 1 }) ∧
    (s.phase = .pcrc → s.idx ≠ 3 → step s = .next { s with
      pending := rest, binding := .source input (p + 1), streamOffset := s.streamOffset + 1
      pcs := placeByte s.pcs s.idx.toNat b
      idx := s.idx + 1 })

/-- 41_frame_reader.md R159: one byte in phase PAY is emitted, fed to the payload accumulator by NEXT only, and counted; in phase PAY
st.remaining is at least 1, so the subtraction never wraps. -/
def Obligations.PayloadByteIsEmittedAndCounted : Prop :=
  (∀ (s : State) (input : Input) (p : Nat) (b : Byte) (rest : List Move),
    s.pending = .answer :: rest → s.busy = true → s.phase = .pay →
    s.binding = .source input p → input.data[p]? = some b →
    step s = .next { s with
      pending := rest, binding := .source input (p + 1), streamOffset := s.streamOffset + 1
      payloadOut := s.payloadOut ++ [b], history := s.history ++ [.outWrite b]
      payAcc := if s.op = .verify then crcUpd s.payAcc b else s.payAcc
      remaining := s.remaining - 1
      phase := if s.remaining - 1 = 0 then .pcrc else .pay
      idx := if s.remaining - 1 = 0 then 0 else s.idx }) ∧
  (∀ s : State, s.Inv → s.phase = .pay →
    1 ≤ s.remaining.toNat ∧ (s.remaining - 1).toNat = s.remaining.toNat - 1)

/-- 41_frame_reader.md R160, R166, R167, R168: the 4th payload_checksum byte of a frame that NEXT began completes it: both checksums
compared independently, both flags and both counters, BUSY cleared, IN_STATE left OPEN as it is. -/
def Obligations.VerifiedFrameCompletes : Prop :=
  ∀ (s : State) (input : Input) (p : Nat) (b : Byte) (rest : List Move),
    s.pending = .answer :: rest → s.busy = true → s.phase = .pcrc → s.idx = 3 → s.op = .verify →
    s.binding = .source input p → input.data[p]? = some b →
    let pcs := placeByte s.pcs 3 b
    let lc := mask (s.lenAcc ^^^ 0xFFFFFFFF)
    let pc := mask (s.payAcc ^^^ 0xFFFFFFFF)
    step s = .next { s with
      pending := rest, binding := .source input (p + 1), streamOffset := s.streamOffset + 1
      pcs := pcs, payCksumStored := pcs
      lenCksumCalc := lc, payCksumCalc := pc
      badLen := decide (lc ≠ s.lcs), badPay := decide (pc ≠ pcs)
      recordsChecked := s.recordsChecked + 1
      badLenCount := if lc ≠ s.lcs then s.badLenCount + 1 else s.badLenCount
      badPayCount := if pc ≠ pcs then s.badPayCount + 1 else s.badPayCount
      outcome := .frame, phase := .idle, idx := 0, busy := false }

/-- 42_fast_path.md R201 with 41_frame_reader.md R160, R166, R167: the 4th payload_checksum byte of a frame that SKIP began completes
it: RECORDS_SKIPPED counts it and no checksum is computed or compared. -/
def Obligations.SkippedFrameCompletes : Prop :=
  ∀ (s : State) (input : Input) (p : Nat) (b : Byte) (rest : List Move),
    s.pending = .answer :: rest → s.busy = true → s.phase = .pcrc → s.idx = 3 → s.op = .skip →
    s.binding = .source input p → input.data[p]? = some b →
    step s = .next { s with
      pending := rest, binding := .source input (p + 1), streamOffset := s.streamOffset + 1
      pcs := placeByte s.pcs 3 b, payCksumStored := placeByte s.pcs 3 b
      recordsSkipped := s.recordsSkipped + 1
      outcome := .frame, phase := .idle, idx := 0, busy := false }

/-- 41_frame_reader.md R161, R162: END before the first byte of a frame is the clean end, ENDED; in any other position it is TRUNCATED,
with the phase of the stop. Both release the binding and end the command; no counter changes and no checksum is compared, so that
BAD_LEN, BAD_PAY and both CALC registers stay 0. -/
def Obligations.EndIsCleanOnlyAtAFrameBoundary : Prop :=
  ∀ (s : State) (input : Input) (p : Nat) (rest : List Move),
    s.pending = .answer :: rest → s.busy = true → s.phase ≠ .idle →
    s.binding = .source input p → input.data[p]? = none → input.term = .endOfInput →
    (s.phase = .len ∧ s.idx = 0 → step s = .next { s with
      pending := rest, outcome := .endOfStream, inState := .ended
      binding := .notHeld, history := s.history ++ [.release]
      phase := .idle, idx := 0, busy := false }) ∧
    (¬ (s.phase = .len ∧ s.idx = 0) → step s = .next { s with
      pending := rest, outcome := .truncated, stopPhase := s.phase, inState := .truncated
      binding := .notHeld, history := s.history ++ [.release]
      phase := .idle, idx := 0, busy := false }) ∧
    (s.Inv → s.badLen = false ∧ s.badPay = false ∧ s.lenCksumCalc = 0 ∧ s.payCksumCalc = 0)

/-- 41_frame_reader.md R163: ERROR in any phase is UNREADABLE, with the phase of the stop, Release() and no counter changed. -/
def Obligations.ErrorIsUnreadable : Prop :=
  ∀ (s : State) (input : Input) (p : Nat) (rest : List Move),
    s.pending = .answer :: rest → s.busy = true → s.phase ≠ .idle →
    s.binding = .source input p → input.data[p]? = none → input.term = .error →
    step s = .next { s with
      pending := rest, outcome := .unreadable, stopPhase := s.phase, inState := .unreadable
      binding := .notHeld, history := s.history ++ [.release]
      phase := .idle, idx := 0, busy := false }

/-- 41_frame_reader.md R154 with the model's choices of logs 1, 2 and 3: an answer finds no engine step while BUSY = 0; with no source
connected at OPEN the answer is the free value, whatever it is; and with no move pending nothing moves. -/
def Obligations.EngineMovesOnlyWhenAnswered : Prop :=
  (∀ (s : State) (rest : List Move), s.pending = .answer :: rest → s.busy = false →
    step s = .next { s with pending := rest }) ∧
  (∀ (s : State) (rest : List Move), s.pending = .answer :: rest → s.busy = true → s.phase ≠ .idle →
    s.binding = .unconnected →
    step s = .next (match Config.unconnectedAnswer s.freeReads with
      | none => { s with pending := rest, freeReads := s.freeReads + 1 }
      | some a => State.onAnswer { s with pending := rest, freeReads := s.freeReads + 1 } a)) ∧
  (∀ s : State, s.pending = [] → step s = .next s)

/-- 10_state.md R45: a collected byte lands at bits [8*idx+7 : 8*idx] of st.lbuf, st.lcs or st.pcs and leaves their other bits. -/
def Obligations.CollectedByteOccupiesItsLane : Prop :=
  (∀ (v : DWord) (idx : BitVec 3) (b : Byte) (i : Nat), i < 64 →
    (placeByte v idx.toNat b).getLsbD i
      = if 8 * idx.toNat ≤ i ∧ i ≤ 8 * idx.toNat + 7 then b.getLsbD (i - 8 * idx.toNat) else v.getLsbD i) ∧
  (∀ (v : Word) (idx : BitVec 3) (b : Byte) (i : Nat), i < 32 → idx ≤ 3 →
    (placeByte v idx.toNat b).getLsbD i
      = if 8 * idx.toNat ≤ i ∧ i ≤ 8 * idx.toNat + 7 then b.getLsbD (i - 8 * idx.toNat) else v.getLsbD i)

/-! ### Whole frames -/

/-- 41_frame_reader.md R151 with R155 to R160 and R166 to R168, and the spec's own inferences R169 and R172: from an idle open block
whose source holds a well-formed frame next, NEXT and 16 + L answers give exactly that frame: its fields, its two checks, one more
record checked, its payload emitted, and the source at the byte after it. -/
def Obligations.NextReadsAndVerifiesOneFrame : Prop :=
  ∀ (s : State) (input : Input) (p : Nat) (f : Frame) (rest : List Move),
    s.busy = false → s.inState = .opened → s.binding = .source input p →
    parseFrame (input.data.drop p) = some f →
    s.pending = wrCmd .nextFrame :: (answers (16 + f.length.toNat) ++ rest) →
    ∃ t, core.run (1 + (16 + f.length.toNat)) s = .next t ∧ t = { s with
      pending := rest, busy := false, cmdErr := false, errCode := none, phase := .idle, idx := 0
      outcome := .frame, verify := true, badLen := !f.lengthOk, badPay := !f.payloadOk, stopPhase := .idle
      length := f.length
      lenCksumStored := f.lengthChecksum, lenCksumCalc := maskedChecksum (leBytes 8 f.length)
      payCksumStored := f.payloadChecksum, payCksumCalc := maskedChecksum f.payload
      recordsChecked := s.recordsChecked + 1
      badLenCount := if f.lengthOk then s.badLenCount else s.badLenCount + 1
      badPayCount := if f.payloadOk then s.badPayCount else s.badPayCount + 1
      frameStart := s.streamOffset, streamOffset := s.streamOffset + 16 + f.length
      binding := .source input (p + 16 + f.length.toNat)
      payloadOut := s.payloadOut ++ f.payload
      history := s.history ++ f.payload.map .outWrite
      op := t.op, lbuf := t.lbuf, lcs := t.lcs, pcs := t.pcs, remaining := t.remaining
      lenAcc := t.lenAcc, payAcc := t.payAcc }

/-- 42_fast_path.md R200 and R201 with 41_frame_reader.md R155 to R160: SKIP reads the same frame in the same number of answers,
compares nothing and counts it in RECORDS_SKIPPED. -/
def Obligations.SkipReadsOneFrameUnverified : Prop :=
  ∀ (s : State) (input : Input) (p : Nat) (f : Frame) (rest : List Move),
    s.busy = false → s.inState = .opened → s.binding = .source input p →
    parseFrame (input.data.drop p) = some f →
    s.pending = wrCmd .skipFrame :: (answers (16 + f.length.toNat) ++ rest) →
    ∃ t, core.run (1 + (16 + f.length.toNat)) s = .next t ∧ t = { s with
      pending := rest, busy := false, cmdErr := false, errCode := none, phase := .idle, idx := 0
      outcome := .frame, verify := false, badLen := false, badPay := false, stopPhase := .idle
      length := f.length
      lenCksumStored := f.lengthChecksum, lenCksumCalc := 0
      payCksumStored := f.payloadChecksum, payCksumCalc := 0
      recordsSkipped := s.recordsSkipped + 1
      frameStart := s.streamOffset, streamOffset := s.streamOffset + 16 + f.length
      binding := .source input (p + 16 + f.length.toNat)
      payloadOut := s.payloadOut ++ f.payload
      history := s.history ++ f.payload.map .outWrite
      op := t.op, lbuf := t.lbuf, lcs := t.lcs, pcs := t.pcs, remaining := t.remaining
      lenAcc := t.lenAcc, payAcc := t.payAcc }

/-- 41_frame_reader.md R161 to R163 with R155 to R160, and the spec's own inference R172: when the k bytes that remain hold no
well-formed frame, NEXT or SKIP and k + 1 answers end the input: cleanly for k = 0 and END, TRUNCATED for END inside a frame,
UNREADABLE for ERROR; every received payload byte stays emitted and no counter moves. -/
def Obligations.ShortInputEndsTheInput : Prop :=
  ∀ (s : State) (input : Input) (p : Nat) (i : Instr) (rest : List Move),
    s.busy = false → s.inState = .opened → s.binding = .source input p →
    i = .nextFrame ∨ i = .skipFrame →
    parseFrame (input.data.drop p) = none →
    s.pending = wrCmd i :: (answers ((input.data.drop p).length + 1) ++ rest) →
    let r := input.data.drop p
    let clean := r = [] ∧ input.term = .endOfInput
    let received := (r.drop 12).take (lengthField r).toNat
    ∃ t, core.run (1 + (r.length + 1)) s = .next t ∧ t = { s with
      pending := rest, busy := false, cmdErr := false, errCode := none, phase := .idle, idx := 0
      outcome := if clean then .endOfStream else if input.term = .endOfInput then .truncated else .unreadable
      inState := if clean then .ended else if input.term = .endOfInput then .truncated else .unreadable
      stopPhase :=
        if clean then .idle
        else if r.length < 8 then .len
        else if r.length < 12 then .lcrc
        else if r.length < 12 + (lengthField r).toNat then .pay
        else .pcrc
      verify := decide (i = .nextFrame), badLen := false, badPay := false
      length := if r.length < 8 then 0 else lengthField r
      lenCksumStored := if r.length < 12 then 0 else le 32 ((r.drop 8).take 4)
      lenCksumCalc := 0, payCksumStored := 0, payCksumCalc := 0
      frameStart := s.streamOffset, streamOffset := s.streamOffset + BitVec.ofNat 64 r.length
      binding := .notHeld
      payloadOut := s.payloadOut ++ received
      history := s.history ++ received.map .outWrite ++ [.release]
      op := t.op, lbuf := t.lbuf, lcs := t.lcs, pcs := t.pcs, remaining := t.remaining
      lenAcc := t.lenAcc, payAcc := t.payAcc }

/-- The spec's own inference 42_fast_path.md R202 (from R200 and 41_frame_reader.md R154 to R168): from the same state, a NEXT and a
SKIP followed by any number of answers consume the same bytes and agree on everything but VERIFY, BAD_LEN, BAD_PAY, the CALC registers,
the counters and the hidden elements behind them. -/
def Obligations.SkipAndNextFrameAlike : Prop :=
  ∀ (s : State) (n : Nat) (rest : List Move), s.busy = false → s.inState = .opened →
    ∃ a b, core.run (1 + n) { s with pending := wrCmd .nextFrame :: (answers n ++ rest) } = .next a ∧
      core.run (1 + n) { s with pending := wrCmd .skipFrame :: (answers n ++ rest) } = .next b ∧
      a.SameFraming b ∧
      b.recordsChecked = s.recordsChecked ∧ b.badLenCount = s.badLenCount ∧ b.badPayCount = s.badPayCount ∧
      a.recordsSkipped = s.recordsSkipped ∧ b.badLen = false ∧ b.badPay = false ∧
      b.lenCksumCalc = 0 ∧ b.payCksumCalc = 0

/-- The spec's own inference 41_frame_reader.md R172: a frame command in progress on a connected source ends after at most as many
answers as bytes remain, and one. -/
def Obligations.FrameCommandEnds : Prop :=
  ∀ (s : State) (input : Input) (p : Nat) (rest : List Move),
    s.busy = true → s.phase ≠ .idle → s.binding = .source input p →
    s.pending = answers (input.data.length - p + 1) ++ rest →
    ∃ n t, 1 ≤ n ∧ n ≤ input.data.length - p + 1 ∧ core.run n s = .next t ∧ t.busy = false ∧ t.phase = .idle ∧
      t.outcome ≠ .none ∧ t.pending = answers (input.data.length - p + 1 - n) ++ rest

/-! ### The standalone checksum -/

/-- The spec's own inference 40_checksum.md R127 (from R121, R124 to R126 and 10_state.md R42): CKS_INIT and one CKS_BYTE per byte, written
to an idle block, leave masked_checksum of the bytes in CKS_RESULT, and nothing of the frame reader changes. -/
def Obligations.CommandsComputeMaskedChecksum : Prop :=
  ∀ (s : State) (bytes : List Byte) (rest : List Move), s.busy = false →
    s.pending = wrCmd .cksInit :: (bytes.map (fun b => wrCmd (.cksByte b)) ++ rest) →
    ∃ t, core.run (1 + bytes.length) s = .next t ∧ t.memRead 0x58 4 = maskedChecksum bytes ∧
      t = { s with pending := rest, cmdErr := false, errCode := none, cksAcc := t.cksAcc }

/-- 40_checksum.md R123: bit i of rotr32(c, 15) is bit (i + 15) mod 32 of c. -/
def Obligations.RotationMovesBits : Prop :=
  ∀ (c : Word) (i : Nat), i < 32 → (rotr32 c 15).getLsbD i = c.getLsbD ((i + 15) % 32)

/-- The spec's own inference 40_checksum.md R128: mask is a bijection, with unmask its inverse. -/
def Obligations.MaskIsInvertible : Prop :=
  (∀ c : Word, unmask (mask c) = c) ∧ (∀ m : Word, mask (unmask m) = m)

/-- 40_checksum.md R120, R124 and 95_test_vectors.md section 2.1: the check value of CRC-32C, and masked checksums the spec prints. -/
def Obligations.ChecksumVectors : Prop :=
  crc32c [0x31, 0x32, 0x33, 0x34, 0x35, 0x36, 0x37, 0x38, 0x39] = 0xE3069283 ∧
  maskedChecksum [] = 0xA282EAD8 ∧
  maskedChecksum [0x00] = 0x49258FD2 ∧
  maskedChecksum [0x68, 0x65, 0x6C, 0x6C, 0x6F] = 0x191C1FBB ∧
  maskedChecksum [0x05, 0, 0, 0, 0, 0, 0, 0] = 0x3E04B2EA

/-- 40_checksum.md R121, "Any equivalent table-driven or multi-byte implementation must give the same result": the update with the
table of the 256 values crc_upd(0, k) is crc_upd. -/
def Obligations.TableDrivenUpdateAgrees : Prop :=
  ∀ (acc : Word) (b : Byte),
    crcUpd acc b = crcUpd 0 (acc.extractLsb' 0 8 ^^^ b) ^^^ (acc >>> 8)

/-- 40_checksum.md R121, R124 with the property restated in 95_test_vectors.md L1-2: two byte sequences that differ in exactly one
byte have different masked checksums. -/
def Obligations.SingleByteChangeIsDetected : Prop :=
  ∀ (xs ys : List Byte) (b c : Byte), b ≠ c →
    maskedChecksum (xs ++ b :: ys) ≠ maskedChecksum (xs ++ c :: ys)

/-! ### The register window -/

/-- 10_state.md R21, R43, 20_memory.md R63: what an aligned 32-bit read of each listed offset returns, a 64-bit register by its two
halves, and 0 at every reserved offset. -/
def Obligations.WindowReadsTheRegisterMap : Prop :=
  ∀ s : State,
    s.memRead 0x00 4 = 0 ∧ s.memRead 0x04 4 = s.statusWord ∧ s.memRead 0x08 4 = s.frameStatusWord ∧
    s.memRead 0x14 4 ++ s.memRead 0x10 4 = s.length ∧
    s.memRead 0x18 4 = s.lenCksumStored ∧ s.memRead 0x1C 4 = s.lenCksumCalc ∧
    s.memRead 0x20 4 = s.payCksumStored ∧ s.memRead 0x24 4 = s.payCksumCalc ∧
    s.memRead 0x2C 4 ++ s.memRead 0x28 4 = s.recordsChecked ∧
    s.memRead 0x34 4 ++ s.memRead 0x30 4 = s.badLenCount ∧
    s.memRead 0x3C 4 ++ s.memRead 0x38 4 = s.badPayCount ∧
    s.memRead 0x44 4 ++ s.memRead 0x40 4 = s.recordsSkipped ∧
    s.memRead 0x4C 4 ++ s.memRead 0x48 4 = s.streamOffset ∧
    s.memRead 0x54 4 ++ s.memRead 0x50 4 = s.frameStart ∧
    s.memRead 0x58 4 = mask (s.cksAcc ^^^ 0xFFFFFFFF) ∧
    (∀ off, off = 0x0C ∨ (0x5C ≤ off ∧ off ≤ 0xFC) → s.memRead off 4 = 0)

/-- 10_state.md R23, R25 to R28: the fields of STATUS at their bits, SUMMARY_CLEAN as R28 gives it, and 0 in every reserved bit. -/
def Obligations.StatusFieldsAtTheirBits : Prop :=
  ∀ s : State,
    s.statusWord.getLsbD 0 = s.busy ∧ s.statusWord.getLsbD 1 = s.cmdErr ∧
    s.statusWord.extractLsb' 2 3 = (match s.errCode with
      | none => 0#3 | some .rsvdOpcode => 1#3 | some .rsvdBits => 2#3 | some .busy => 3#3 | some .badState => 4#3) ∧
    s.statusWord.extractLsb' 5 3 = 0 ∧
    s.statusWord.extractLsb' 8 3 = (match s.inState with
      | .closed => 0#3 | .opened => 1#3 | .ended => 2#3 | .truncated => 3#3 | .unreadable => 4#3 | .abandoned => 5#3) ∧
    s.statusWord.getLsbD 11 = false ∧
    s.statusWord.extractLsb' 12 3 = (match s.phase with
      | .idle => 0#3 | .len => 1#3 | .lcrc => 2#3 | .pay => 3#3 | .pcrc => 4#3) ∧
    (s.statusWord.getLsbD 15 = true ↔ s.inState = .ended ∧ s.badLenCount = 0 ∧ s.badPayCount = 0) ∧
    s.statusWord.extractLsb' 16 16 = 0

/-- 10_state.md R29 to R32: the fields of FRAME_STATUS at their bits, VALID as R31 gives it, and 0 in every reserved bit. -/
def Obligations.FrameStatusFieldsAtTheirBits : Prop :=
  ∀ s : State,
    s.frameStatusWord.extractLsb' 0 3 = (match s.outcome with
      | .none => 0#3 | .frame => 1#3 | .endOfStream => 2#3 | .truncated => 3#3 | .unreadable => 4#3) ∧
    s.frameStatusWord.getLsbD 3 = s.verify ∧ s.frameStatusWord.getLsbD 4 = s.badLen ∧
    s.frameStatusWord.getLsbD 5 = s.badPay ∧
    (s.frameStatusWord.getLsbD 6 = true ↔
      s.outcome = .frame ∧ s.verify = true ∧ s.badLen = false ∧ s.badPay = false) ∧
    s.frameStatusWord.getLsbD 7 = false ∧
    s.frameStatusWord.extractLsb' 8 3 = (match s.stopPhase with
      | .idle => 0#3 | .len => 1#3 | .lcrc => 2#3 | .pay => 3#3 | .pcrc => 4#3) ∧
    s.frameStatusWord.extractLsb' 11 21 = 0

/-- 20_memory.md R61: an access in the window with off[1:0] not 0, or with a width other than 4 bytes, reads 0 or writes nothing, and
sets no CMD_ERR. -/
def Obligations.MisalignedAccessHasNoEffect : Prop :=
  ∀ (s : State) (off width : Nat) (v : Word) (rest : List Move), off < 0x100 → (off % 4 ≠ 0 ∨ width ≠ 4) →
    s.memRead off width = 0 ∧
    (s.pending = .write off width v :: rest → step s = .next { s with pending := rest }) ∧
    (s.pending = .read off width :: rest →
      step s = .next { s with pending := rest, history := s.history ++ [.readData off width 0] })

/-- 20_memory.md R64: a read has no side effect (only the host's observation of its value is recorded) and every later read returns what
it returned before; a write to anything but CMD is ignored. -/
def Obligations.OnlyCommandWritesHaveEffect : Prop :=
  (∀ (s : State) (off width : Nat) (rest : List Move), s.pending = .read off width :: rest → off < 0x100 →
    ∃ t, step s = .next t ∧
      t = { s with pending := rest, history := s.history ++ [.readData off width (s.memRead off width)] } ∧
      ∀ off' width', t.memRead off' width' = s.memRead off' width') ∧
  (∀ (s : State) (off width : Nat) (v : Word) (rest : List Move), s.pending = .write off width v :: rest → off < 0x100 →
    ¬ (off = 0x00 ∧ width = 4) → step s = .next { s with pending := rest })

/-- 20_memory.md R62: a byte-addressing host sees each register little-endian: bits [8k+7 : 8k] at off + k. -/
def Obligations.RegisterBytesAreLittleEndian : Prop :=
  ∀ (s : State) (off k i : Nat), off % 4 = 0 → k < 4 → i < 8 →
    (s.windowByte (off + k)).getLsbD i = (s.memRead off 4).getLsbD (8 * k + i)

/-- The refusals of U2 and U5 in 93_implementation_defined.md, logs 5 and 6: an access at or above 0x100, and a binding while IN_STATE is
OPEN, have no step. The third clause is the model's choice (log 4): elsewhere a binding connects its source, in place of any source
connected before that no OPEN has taken, and changes nothing else. -/
def Obligations.UndecodedAccessAndRebindAreRefused : Prop :=
  (∀ (s : State) (off width : Nat) (v : Word) (rest : List Move), 0x100 ≤ off →
    (s.pending = .read off width :: rest ∨ s.pending = .write off width v :: rest) →
    step s = .refused (.accessOutsideWindow off)) ∧
  (∀ (s : State) (input : Input) (rest : List Move), s.pending = .bind input :: rest → s.inState = .opened →
    step s = .refused .rebindWhileOpen) ∧
  (∀ (s : State) (input : Input) (rest : List Move), s.pending = .bind input :: rest → s.inState ≠ .opened →
    step s = .next { s with pending := rest, connected := some input })

/-! ### Reset -/

/-- 10_state.md R50: the reset value of every element of the block. -/
def Obligations.ResetValues : Prop :=
  State.reset.statusWord = 0 ∧ State.reset.frameStatusWord = 0 ∧
  State.reset.busy = false ∧ State.reset.cmdErr = false ∧ State.reset.errCode = none ∧
  State.reset.inState = .closed ∧ State.reset.phase = .idle ∧
  State.reset.outcome = .none ∧ State.reset.verify = false ∧ State.reset.badLen = false ∧
  State.reset.badPay = false ∧ State.reset.stopPhase = .idle ∧
  State.reset.length = 0 ∧ State.reset.lenCksumStored = 0 ∧ State.reset.lenCksumCalc = 0 ∧
  State.reset.payCksumStored = 0 ∧ State.reset.payCksumCalc = 0 ∧
  State.reset.recordsChecked = 0 ∧ State.reset.badLenCount = 0 ∧ State.reset.badPayCount = 0 ∧
  State.reset.recordsSkipped = 0 ∧ State.reset.streamOffset = 0 ∧ State.reset.frameStart = 0 ∧
  State.reset.cksAcc = 0xFFFFFFFF ∧ State.reset.cksResult = 0xA282EAD8 ∧
  State.reset.idx = 0 ∧ State.reset.op = .verify ∧
  State.reset.lbuf = 0 ∧ State.reset.lcs = 0 ∧ State.reset.pcs = 0 ∧ State.reset.remaining = 0 ∧
  State.reset.lenAcc = 0xFFFFFFFF ∧ State.reset.payAcc = 0xFFFFFFFF ∧
  State.reset.binding = .notHeld

/-- 70_reset_and_hazards.md R260: asserting reset in any state puts every element of the block into its reset value, PAYLOAD_OUT
included, and reset is the only event that returns IN_STATE to CLOSED (the fields left as t's are the model's own, logs 3, 4, 9). -/
def Obligations.ResetRestoresEveryElement : Prop :=
  (∀ (s : State) (rest : List Move), s.pending = .reset :: rest →
    ∃ t, step s = .next t ∧ t = { State.reset with
      pending := rest, connected := t.connected, history := t.history, freeReads := t.freeReads }) ∧
  (∀ s t : State, step s = .next t → t.inState = .closed → s.inState = .closed ∨ ∃ rest, s.pending = .reset :: rest)

/-- 70_reset_and_hazards.md R262, with the model's reading of log 10: a reset in mid-command records no outcome and counts nothing, emits
no Release(), and the payload bytes already emitted stay in the history. -/
def Obligations.ResetAbandonsTheCommand : Prop :=
  ∀ (s t : State) (rest : List Move), s.pending = .reset :: rest → step s = .next t →
    t.busy = false ∧ t.outcome = .none ∧ t.recordsChecked = 0 ∧ t.recordsSkipped = 0 ∧ t.binding = .notHeld ∧
    t.releaseCount = s.releaseCount ∧ s.history <+: t.history

/-! ### Invariants and whole-machine rules -/

/-- The invariant holds after reset. -/
def Obligations.ResetSatisfiesInvariant : Prop := State.reset.Inv

/-- 10_state.md R24 to R35, R48, R51 and 41_frame_reader.md R154, R164: every step keeps the invariant, from every state that has it. It
says that BUSY implies OPEN, that PHASE is IDLE exactly when BUSY = 0, that a binding is held exactly while OPEN, how OUTCOME and IN_STATE
go together, that CLOSED means all counters 0, that STREAM_OFFSET counts the bytes given, and how far the frame has been read. -/
def Obligations.StepKeepsInvariant : Prop :=
  ∀ s t : State, s.Inv → step s = .next t → t.Inv

/-- 41_frame_reader.md R154: an engine step never happens with st.phase == IDLE, so that no state with the invariant stops with a
fault. -/
def Obligations.InvariantExcludesFaults : Prop :=
  ∀ (s : State) (r : Fault), s.Inv → step s ≠ .fault r

/-- The spec's own inference 10_state.md R51: BAD_LEN_COUNT and BAD_PAY_COUNT stay at most RECORDS_CHECKED while it does not wrap, and
FRAME_START stays at most STREAM_OFFSET while that does not wrap. -/
def Obligations.CountersAndOffsetsStayOrdered : Prop :=
  (∀ s t : State, s.badLenCount ≤ s.recordsChecked → s.badPayCount ≤ s.recordsChecked →
    s.recordsChecked ≠ 0xFFFFFFFFFFFFFFFF → step s = .next t →
    t.badLenCount ≤ t.recordsChecked ∧ t.badPayCount ≤ t.recordsChecked) ∧
  (∀ s t : State, s.frameStart ≤ s.streamOffset → s.streamOffset ≠ 0xFFFFFFFFFFFFFFFF → step s = .next t →
    t.frameStart ≤ t.streamOffset)

/-- The spec's own inference 41_frame_reader.md R164: how many bytes of the partial frame a truncation has received, by STOP_PHASE, for a
length that leaves room below 2^64 (U9 of 93_implementation_defined.md). -/
def Obligations.TruncationPositionFollowsFromStopPhase : Prop :=
  ∀ (s t : State) (rest : List Move), s.Inv → s.pending = .answer :: rest → s.busy = true → step s = .next t →
    t.outcome = .truncated → t.length.toNat + 16 < 2 ^ 64 →
    let k := (t.streamOffset - t.frameStart).toNat
    match t.stopPhase with
    | .idle => False
    | .len => 1 ≤ k ∧ k ≤ 7
    | .lcrc => 8 ≤ k ∧ k ≤ 11
    | .pay => 12 ≤ k ∧ k ≤ 11 + t.length.toNat
    | .pcrc => 12 + t.length.toNat ≤ k ∧ k ≤ 15 + t.length.toNat

/-- 20_memory.md R69 with 70_reset_and_hazards.md R262: Release() is emitted exactly in the step where IN_STATE leaves OPEN, other than
by reset, and once; a reset, which alone leads to CLOSED, emits none. -/
def Obligations.ReleaseExactlyOnLeavingOpen : Prop :=
  ∀ s t : State, s.Inv → step s = .next t →
    t.releaseCount
      = s.releaseCount + (if s.inState = .opened ∧ t.inState ≠ .opened ∧ t.inState ≠ .closed then 1 else 0)

/-- 10_state.md R24: BUSY is set when a NEXT or SKIP is accepted; an engine step clears it exactly when it ends the command with a
completed frame, a clean end, a truncation or an I/O error; and no other event changes it, but for the reset of 70_reset_and_hazards.md
R260. -/
def Obligations.BusyChangesOnlyAsStated : Prop :=
  (∀ (s : State) (i : Instr), i = .nextFrame ∨ i = .skipFrame → s.busy = false → s.inState = .opened →
    ∃ t, exec i s = .next t ∧ t.busy = true) ∧
  (∀ (s t : State) (rest : List Move), s.Inv → s.pending = .answer :: rest → s.busy = true → step s = .next t →
    (t.busy = false ↔
      t.outcome = .frame ∨ t.outcome = .endOfStream ∨ t.outcome = .truncated ∨ t.outcome = .unreadable)) ∧
  (∀ s t : State, step s = .next t → t.busy ≠ s.busy →
    (∃ w rest i, s.pending = .write 0x00 4 w :: rest ∧ decode w = .cmd i ∧ (i = .nextFrame ∨ i = .skipFrame) ∧
      s.busy = false ∧ s.inState = .opened ∧ t.busy = true) ∨
    (∃ rest, s.pending = .answer :: rest ∧ t.busy = false) ∨
    (∃ rest, s.pending = .reset :: rest ∧ t.busy = false))

/-- 10_state.md R26 with the rules it names: every change of IN_STATE is OPEN's acceptance, an end or stop of the engine, CLOSE's
acceptance, or reset. -/
def Obligations.InputStateTransitions : Prop :=
  ∀ s t : State, s.Inv → step s = .next t → t.inState ≠ s.inState →
    (∃ w rest, s.pending = .write 0x00 4 w :: rest ∧ decode w = .cmd .openInput ∧ t.inState = .opened) ∨
    (∃ w rest, s.pending = .write 0x00 4 w :: rest ∧ decode w = .cmd .closeInput ∧
      s.inState = .opened ∧ s.busy = false ∧ t.inState = .abandoned) ∨
    (∃ rest, s.pending = .answer :: rest ∧ s.inState = .opened ∧ s.busy = true ∧
      (t.inState = .ended ∧ t.outcome = .endOfStream ∨ t.inState = .truncated ∧ t.outcome = .truncated ∨
        t.inState = .unreadable ∧ t.outcome = .unreadable)) ∨
    (∃ rest, s.pending = .reset :: rest ∧ t.inState = .closed)

/-- 10_state.md R49: only CKS_INIT, CKS_BYTE and reset change st.cks_acc, so that no frame disturbs a standalone checksum. -/
def Obligations.OnlyChecksumCommandsChangeTheAccumulator : Prop :=
  ∀ s t : State, step s = .next t → t.cksAcc ≠ s.cksAcc →
    (∃ w rest i, s.pending = .write 0x00 4 w :: rest ∧ decode w = .cmd i ∧ s.busy = false ∧
      (i = .cksInit ∨ ∃ b, i = .cksByte b)) ∨
    (∃ rest, s.pending = .reset :: rest)

/-- 20_memory.md R71: PAYLOAD_OUT grows, by one byte, exactly in an engine step that consumes a payload byte, is cleared by an accepted OPEN
and (70_reset_and_hazards.md R260) by reset, and no other step changes it. -/
def Obligations.OnlyPayloadBytesAreEmitted : Prop :=
  (∀ (s t : State) (rest : List Move), s.pending = .answer :: rest → s.busy = true → step s = .next t →
    t.payloadOut = s.payloadOut ++ (match s.phase, s.inRead.1 with
      | .pay, some (.byte b) => [b]
      | _, _ => [])) ∧
  (∀ s : State, s.busy = false → s.inState ≠ .opened → ∃ t, exec .openInput s = .next t ∧ t.payloadOut = []) ∧
  (∀ s t : State, step s = .next t → t.payloadOut ≠ s.payloadOut →
    (∃ rest, s.pending = .answer :: rest ∧ s.busy = true) ∨
    (∃ w rest, s.pending = .write 0x00 4 w :: rest ∧ decode w = .cmd .openInput ∧ t.payloadOut = []) ∨
    (∃ rest, s.pending = .reset :: rest ∧ t.payloadOut = []))

/-- The spec's own inference 70_reset_and_hazards.md R271: while BUSY = 1, FRAME_STATUS reads 0 but for VERIFY, LENGTH reads 0 in phase LEN,
LEN_CKSUM_STORED reads 0 through phase LCRC, and the other result registers read 0. -/
def Obligations.BusyRegistersAreIntermediate : Prop :=
  ∀ s : State, s.Inv → s.busy = true →
    s.frameStatusWord = (if s.verify then 0x00000008 else 0x00000000) ∧
    (s.phase = .len → s.memRead 0x10 4 = 0 ∧ s.memRead 0x14 4 = 0) ∧
    (s.phase = .len ∨ s.phase = .lcrc → s.memRead 0x18 4 = 0) ∧
    s.memRead 0x1C 4 = 0 ∧ s.memRead 0x20 4 = 0 ∧ s.memRead 0x24 4 = 0

/-- The spec's own inference 20_memory.md R76: with BUSY = 0 every register keeps its value through every step that is neither a write to
CMD nor a reset. -/
def Obligations.IdleRegistersAreStable : Prop :=
  ∀ s t : State, s.busy = false → step s = .next t →
    (∀ w rest, s.pending ≠ .write 0x00 4 w :: rest) → (∀ rest, s.pending ≠ .reset :: rest) →
    s.SameRegisters t ∧ t.busy = false

/-- 60_exceptions.md R244: instances share nothing: a step of block k is a step of that block's own state and leaves every other
block as it was. -/
def Obligations.InstancesShareNothing : Prop :=
  ∀ (k : Nat) (y z : System), System.stepBlock k y = .next z →
    (∀ j, j ≠ k → z.blocks[j]? = y.blocks[j]?) ∧
    (∀ s, y.blocks[k]? = some s → ∃ s', step s = .next s' ∧ z.blocks[k]? = some s')
end

