-- ==== Sys2Proof/Laws/Decode.lean ====
section
/-! SUPPORT. The fields of an encoded instruction, and what each outcome of the decoder says of a word's fields (30_encoding.md
R100 to R105). -/

namespace Sys2Proof

/-- The bits of an encoded instruction: OPC, then IMM8, then zeros. -/
theorem encode_getLsbD (i : Instr) (k : Nat) (hk : k < 32) :
    (encode i).getLsbD k = if k < 8 then (opcodeOf i).getLsbD k else (imm8Of i).getLsbD (k - 8) := by
  simp only [encode, BitVec.getLsbD_or, BitVec.getLsbD_shiftLeft, BitVec.getLsbD_setWidth, hk, decide_true, Bool.true_and]
  by_cases h : k < 8
  · simp [h]
  · have h1 : (opcodeOf i).getLsbD k = false := BitVec.getLsbD_of_ge _ _ (by omega)
    have h2 : k - 8 < 32 := by omega
    simp [h, h1, h2]

/-- The opcode field of an encoded instruction. -/
@[simp] theorem fieldsOf_encode_opc (i : Instr) : (fieldsOf (encode i)).opc = opcodeOf i := by
  apply BitVec.eq_of_getLsbD_eq
  intro k hk
  rw [fieldsOf, BitVec.getLsbD_extractLsb', encode_getLsbD i _ (by omega)]
  simp [hk]

/-- The IMM8 field of an encoded instruction. -/
@[simp] theorem fieldsOf_encode_imm8 (i : Instr) : (fieldsOf (encode i)).imm8 = imm8Of i := by
  apply BitVec.eq_of_getLsbD_eq
  intro k hk
  rw [fieldsOf, BitVec.getLsbD_extractLsb', encode_getLsbD i _ (by omega)]
  have h : ¬ 8 + k < 8 := by omega
  simp [hk]

/-- The RSVD field of an encoded instruction is 0. -/
@[simp] theorem fieldsOf_encode_rsvd (i : Instr) : (fieldsOf (encode i)).rsvd = 0 := by
  apply BitVec.eq_of_getLsbD_eq
  intro k hk
  rw [fieldsOf, BitVec.getLsbD_extractLsb', encode_getLsbD i _ (by omega),
    if_neg (show ¬ 16 + k < 8 by omega), BitVec.getLsbD_of_ge (imm8Of i) (16 + k - 8) (by omega)]
  simp

/-- A word is its three fields. -/
theorem word_eq_fields (w : Word) :
    ((fieldsOf w).rsvd ++ (fieldsOf w).imm8 ++ (fieldsOf w).opc : BitVec 32) = w := by
  apply BitVec.eq_of_getLsbD_eq
  intro i hi
  simp only [fieldsOf, BitVec.getLsbD_append, BitVec.getLsbD_extractLsb']
  by_cases h1 : i < 8
  · simp [h1]
  · by_cases h2 : i - 8 < 8
    · have : 8 + (i - 8) = i := by omega
      simp [h1, h2, this]
    · have h3 : i - 8 - 8 < 16 := by omega
      have : 16 + (i - 8 - 8) = i := by omega
      simp [h1, h2, h3, this]

/-- An opcode names a command exactly when it is that command's, and IMM8 is CKS_BYTE's operand. -/
theorem instrOf_eq_some_iff (opc imm8 : Byte) (i : Instr) :
    instrOf opc imm8 = some i ↔ opc = opcodeOf i ∧ (∀ b, i = .cksByte b → b = imm8) := by
  unfold instrOf
  constructor
  · intro h
    split_ifs at h <;> simp_all <;> subst h <;> simp_all [opcodeOf]
  · rintro ⟨rfl, h⟩
    cases i <;> simp_all [opcodeOf]

/-- What the decoder says of a word (R105). -/
theorem decode_cases (w : Word) :
    (decode w = .reject .rsvdOpcode ∧ instrOf (fieldsOf w).opc (fieldsOf w).imm8 = none) ∨
    (decode w = .reject .rsvdBits ∧ (∃ i, instrOf (fieldsOf w).opc (fieldsOf w).imm8 = some i) ∧
      ((fieldsOf w).rsvd ≠ 0 ∨ (fieldsOf w).opc ≠ 0x11 ∧ (fieldsOf w).imm8 ≠ 0)) ∨
    (∃ i, decode w = .cmd i ∧ instrOf (fieldsOf w).opc (fieldsOf w).imm8 = some i ∧ (fieldsOf w).rsvd = 0 ∧
      ((fieldsOf w).opc = 0x11 ∨ (fieldsOf w).imm8 = 0)) := by
  cases h : instrOf (fieldsOf w).opc (fieldsOf w).imm8 with
  | none => exact .inl ⟨by simp only [decode, h], rfl⟩
  | some i =>
    by_cases hr : (fieldsOf w).rsvd = 0
    · by_cases hb : (fieldsOf w).opc ≠ 0x11 ∧ (fieldsOf w).imm8 ≠ 0
      · exact .inr (.inl ⟨by simp only [decode, h, hr, ne_eq, not_true_eq_false, if_false]; rw [if_pos hb],
          ⟨i, rfl⟩, .inr hb⟩)
      · exact .inr (.inr ⟨i, by simp only [decode, h, hr, ne_eq, not_true_eq_false, if_false]; rw [if_neg hb],
          rfl, hr, by tauto⟩)
    · exact .inr (.inl ⟨by simp only [decode, h]; rw [if_pos hr], ⟨i, rfl⟩, .inl hr⟩)

end Sys2Proof
end

