-- ==== Sys2Proof/Laws/State.lean ====
section
/-! SUPPORT. What each named update of State does to each field. -/

namespace Sys2Proof.Machine

variable (s : State)

@[simp] theorem State.raiseCmdError_busy (c : Rejection) : (s.raiseCmdError c).busy = s.busy := rfl
@[simp] theorem State.raiseCmdError_cmdErr (c : Rejection) : (s.raiseCmdError c).cmdErr = true := rfl
@[simp] theorem State.raiseCmdError_errCode (c : Rejection) : (s.raiseCmdError c).errCode = some c := rfl
@[simp] theorem State.raiseCmdError_inState (c : Rejection) : (s.raiseCmdError c).inState = s.inState := rfl
@[simp] theorem State.raiseCmdError_phase (c : Rejection) : (s.raiseCmdError c).phase = s.phase := rfl
@[simp] theorem State.raiseCmdError_outcome (c : Rejection) : (s.raiseCmdError c).outcome = s.outcome := rfl
@[simp] theorem State.raiseCmdError_verify (c : Rejection) : (s.raiseCmdError c).verify = s.verify := rfl
@[simp] theorem State.raiseCmdError_badLen (c : Rejection) : (s.raiseCmdError c).badLen = s.badLen := rfl
@[simp] theorem State.raiseCmdError_badPay (c : Rejection) : (s.raiseCmdError c).badPay = s.badPay := rfl
@[simp] theorem State.raiseCmdError_stopPhase (c : Rejection) : (s.raiseCmdError c).stopPhase = s.stopPhase := rfl
@[simp] theorem State.raiseCmdError_length (c : Rejection) : (s.raiseCmdError c).length = s.length := rfl
@[simp] theorem State.raiseCmdError_lenCksumStored (c : Rejection) : (s.raiseCmdError c).lenCksumStored = s.lenCksumStored := rfl
@[simp] theorem State.raiseCmdError_lenCksumCalc (c : Rejection) : (s.raiseCmdError c).lenCksumCalc = s.lenCksumCalc := rfl
@[simp] theorem State.raiseCmdError_payCksumStored (c : Rejection) : (s.raiseCmdError c).payCksumStored = s.payCksumStored := rfl
@[simp] theorem State.raiseCmdError_payCksumCalc (c : Rejection) : (s.raiseCmdError c).payCksumCalc = s.payCksumCalc := rfl
@[simp] theorem State.raiseCmdError_recordsChecked (c : Rejection) : (s.raiseCmdError c).recordsChecked = s.recordsChecked := rfl
@[simp] theorem State.raiseCmdError_badLenCount (c : Rejection) : (s.raiseCmdError c).badLenCount = s.badLenCount := rfl
@[simp] theorem State.raiseCmdError_badPayCount (c : Rejection) : (s.raiseCmdError c).badPayCount = s.badPayCount := rfl
@[simp] theorem State.raiseCmdError_recordsSkipped (c : Rejection) : (s.raiseCmdError c).recordsSkipped = s.recordsSkipped := rfl
@[simp] theorem State.raiseCmdError_streamOffset (c : Rejection) : (s.raiseCmdError c).streamOffset = s.streamOffset := rfl
@[simp] theorem State.raiseCmdError_frameStart (c : Rejection) : (s.raiseCmdError c).frameStart = s.frameStart := rfl
@[simp] theorem State.raiseCmdError_idx (c : Rejection) : (s.raiseCmdError c).idx = s.idx := rfl
@[simp] theorem State.raiseCmdError_op (c : Rejection) : (s.raiseCmdError c).op = s.op := rfl
@[simp] theorem State.raiseCmdError_lbuf (c : Rejection) : (s.raiseCmdError c).lbuf = s.lbuf := rfl
@[simp] theorem State.raiseCmdError_lcs (c : Rejection) : (s.raiseCmdError c).lcs = s.lcs := rfl
@[simp] theorem State.raiseCmdError_pcs (c : Rejection) : (s.raiseCmdError c).pcs = s.pcs := rfl
@[simp] theorem State.raiseCmdError_remaining (c : Rejection) : (s.raiseCmdError c).remaining = s.remaining := rfl
@[simp] theorem State.raiseCmdError_lenAcc (c : Rejection) : (s.raiseCmdError c).lenAcc = s.lenAcc := rfl
@[simp] theorem State.raiseCmdError_payAcc (c : Rejection) : (s.raiseCmdError c).payAcc = s.payAcc := rfl
@[simp] theorem State.raiseCmdError_cksAcc (c : Rejection) : (s.raiseCmdError c).cksAcc = s.cksAcc := rfl
@[simp] theorem State.raiseCmdError_binding (c : Rejection) : (s.raiseCmdError c).binding = s.binding := rfl
@[simp] theorem State.raiseCmdError_connected (c : Rejection) : (s.raiseCmdError c).connected = s.connected := rfl
@[simp] theorem State.raiseCmdError_payloadOut (c : Rejection) : (s.raiseCmdError c).payloadOut = s.payloadOut := rfl
@[simp] theorem State.raiseCmdError_history (c : Rejection) : (s.raiseCmdError c).history = s.history ++ [.rejected c] := rfl
@[simp] theorem State.raiseCmdError_freeReads (c : Rejection) : (s.raiseCmdError c).freeReads = s.freeReads := rfl
@[simp] theorem State.raiseCmdError_pending (c : Rejection) : (s.raiseCmdError c).pending = s.pending := rfl

@[simp] theorem State.clearCmdError_busy : s.clearCmdError.busy = s.busy := rfl
@[simp] theorem State.clearCmdError_cmdErr : s.clearCmdError.cmdErr = false := rfl
@[simp] theorem State.clearCmdError_errCode : s.clearCmdError.errCode = none := rfl
@[simp] theorem State.clearCmdError_inState : s.clearCmdError.inState = s.inState := rfl
@[simp] theorem State.clearCmdError_phase : s.clearCmdError.phase = s.phase := rfl
@[simp] theorem State.clearCmdError_outcome : s.clearCmdError.outcome = s.outcome := rfl
@[simp] theorem State.clearCmdError_verify : s.clearCmdError.verify = s.verify := rfl
@[simp] theorem State.clearCmdError_badLen : s.clearCmdError.badLen = s.badLen := rfl
@[simp] theorem State.clearCmdError_badPay : s.clearCmdError.badPay = s.badPay := rfl
@[simp] theorem State.clearCmdError_stopPhase : s.clearCmdError.stopPhase = s.stopPhase := rfl
@[simp] theorem State.clearCmdError_length : s.clearCmdError.length = s.length := rfl
@[simp] theorem State.clearCmdError_lenCksumStored : s.clearCmdError.lenCksumStored = s.lenCksumStored := rfl
@[simp] theorem State.clearCmdError_lenCksumCalc : s.clearCmdError.lenCksumCalc = s.lenCksumCalc := rfl
@[simp] theorem State.clearCmdError_payCksumStored : s.clearCmdError.payCksumStored = s.payCksumStored := rfl
@[simp] theorem State.clearCmdError_payCksumCalc : s.clearCmdError.payCksumCalc = s.payCksumCalc := rfl
@[simp] theorem State.clearCmdError_recordsChecked : s.clearCmdError.recordsChecked = s.recordsChecked := rfl
@[simp] theorem State.clearCmdError_badLenCount : s.clearCmdError.badLenCount = s.badLenCount := rfl
@[simp] theorem State.clearCmdError_badPayCount : s.clearCmdError.badPayCount = s.badPayCount := rfl
@[simp] theorem State.clearCmdError_recordsSkipped : s.clearCmdError.recordsSkipped = s.recordsSkipped := rfl
@[simp] theorem State.clearCmdError_streamOffset : s.clearCmdError.streamOffset = s.streamOffset := rfl
@[simp] theorem State.clearCmdError_frameStart : s.clearCmdError.frameStart = s.frameStart := rfl
@[simp] theorem State.clearCmdError_idx : s.clearCmdError.idx = s.idx := rfl
@[simp] theorem State.clearCmdError_op : s.clearCmdError.op = s.op := rfl
@[simp] theorem State.clearCmdError_lbuf : s.clearCmdError.lbuf = s.lbuf := rfl
@[simp] theorem State.clearCmdError_lcs : s.clearCmdError.lcs = s.lcs := rfl
@[simp] theorem State.clearCmdError_pcs : s.clearCmdError.pcs = s.pcs := rfl
@[simp] theorem State.clearCmdError_remaining : s.clearCmdError.remaining = s.remaining := rfl
@[simp] theorem State.clearCmdError_lenAcc : s.clearCmdError.lenAcc = s.lenAcc := rfl
@[simp] theorem State.clearCmdError_payAcc : s.clearCmdError.payAcc = s.payAcc := rfl
@[simp] theorem State.clearCmdError_cksAcc : s.clearCmdError.cksAcc = s.cksAcc := rfl
@[simp] theorem State.clearCmdError_binding : s.clearCmdError.binding = s.binding := rfl
@[simp] theorem State.clearCmdError_connected : s.clearCmdError.connected = s.connected := rfl
@[simp] theorem State.clearCmdError_payloadOut : s.clearCmdError.payloadOut = s.payloadOut := rfl
@[simp] theorem State.clearCmdError_history : s.clearCmdError.history = s.history := rfl
@[simp] theorem State.clearCmdError_freeReads : s.clearCmdError.freeReads = s.freeReads := rfl
@[simp] theorem State.clearCmdError_pending : s.clearCmdError.pending = s.pending := rfl

@[simp] theorem State.release_busy : s.release.busy = s.busy := rfl
@[simp] theorem State.release_cmdErr : s.release.cmdErr = s.cmdErr := rfl
@[simp] theorem State.release_errCode : s.release.errCode = s.errCode := rfl
@[simp] theorem State.release_inState : s.release.inState = s.inState := rfl
@[simp] theorem State.release_phase : s.release.phase = s.phase := rfl
@[simp] theorem State.release_outcome : s.release.outcome = s.outcome := rfl
@[simp] theorem State.release_verify : s.release.verify = s.verify := rfl
@[simp] theorem State.release_badLen : s.release.badLen = s.badLen := rfl
@[simp] theorem State.release_badPay : s.release.badPay = s.badPay := rfl
@[simp] theorem State.release_stopPhase : s.release.stopPhase = s.stopPhase := rfl
@[simp] theorem State.release_length : s.release.length = s.length := rfl
@[simp] theorem State.release_lenCksumStored : s.release.lenCksumStored = s.lenCksumStored := rfl
@[simp] theorem State.release_lenCksumCalc : s.release.lenCksumCalc = s.lenCksumCalc := rfl
@[simp] theorem State.release_payCksumStored : s.release.payCksumStored = s.payCksumStored := rfl
@[simp] theorem State.release_payCksumCalc : s.release.payCksumCalc = s.payCksumCalc := rfl
@[simp] theorem State.release_recordsChecked : s.release.recordsChecked = s.recordsChecked := rfl
@[simp] theorem State.release_badLenCount : s.release.badLenCount = s.badLenCount := rfl
@[simp] theorem State.release_badPayCount : s.release.badPayCount = s.badPayCount := rfl
@[simp] theorem State.release_recordsSkipped : s.release.recordsSkipped = s.recordsSkipped := rfl
@[simp] theorem State.release_streamOffset : s.release.streamOffset = s.streamOffset := rfl
@[simp] theorem State.release_frameStart : s.release.frameStart = s.frameStart := rfl
@[simp] theorem State.release_idx : s.release.idx = s.idx := rfl
@[simp] theorem State.release_op : s.release.op = s.op := rfl
@[simp] theorem State.release_lbuf : s.release.lbuf = s.lbuf := rfl
@[simp] theorem State.release_lcs : s.release.lcs = s.lcs := rfl
@[simp] theorem State.release_pcs : s.release.pcs = s.pcs := rfl
@[simp] theorem State.release_remaining : s.release.remaining = s.remaining := rfl
@[simp] theorem State.release_lenAcc : s.release.lenAcc = s.lenAcc := rfl
@[simp] theorem State.release_payAcc : s.release.payAcc = s.payAcc := rfl
@[simp] theorem State.release_cksAcc : s.release.cksAcc = s.cksAcc := rfl
@[simp] theorem State.release_binding : s.release.binding = .notHeld := rfl
@[simp] theorem State.release_connected : s.release.connected = s.connected := rfl
@[simp] theorem State.release_payloadOut : s.release.payloadOut = s.payloadOut := rfl
@[simp] theorem State.release_history : s.release.history = s.history ++ [.release] := rfl
@[simp] theorem State.release_freeReads : s.release.freeReads = s.freeReads := rfl
@[simp] theorem State.release_pending : s.release.pending = s.pending := rfl

@[simp] theorem State.takeBinding_busy : s.takeBinding.busy = s.busy := rfl
@[simp] theorem State.takeBinding_cmdErr : s.takeBinding.cmdErr = s.cmdErr := rfl
@[simp] theorem State.takeBinding_errCode : s.takeBinding.errCode = s.errCode := rfl
@[simp] theorem State.takeBinding_inState : s.takeBinding.inState = s.inState := rfl
@[simp] theorem State.takeBinding_phase : s.takeBinding.phase = s.phase := rfl
@[simp] theorem State.takeBinding_outcome : s.takeBinding.outcome = s.outcome := rfl
@[simp] theorem State.takeBinding_verify : s.takeBinding.verify = s.verify := rfl
@[simp] theorem State.takeBinding_badLen : s.takeBinding.badLen = s.badLen := rfl
@[simp] theorem State.takeBinding_badPay : s.takeBinding.badPay = s.badPay := rfl
@[simp] theorem State.takeBinding_stopPhase : s.takeBinding.stopPhase = s.stopPhase := rfl
@[simp] theorem State.takeBinding_length : s.takeBinding.length = s.length := rfl
@[simp] theorem State.takeBinding_lenCksumStored : s.takeBinding.lenCksumStored = s.lenCksumStored := rfl
@[simp] theorem State.takeBinding_lenCksumCalc : s.takeBinding.lenCksumCalc = s.lenCksumCalc := rfl
@[simp] theorem State.takeBinding_payCksumStored : s.takeBinding.payCksumStored = s.payCksumStored := rfl
@[simp] theorem State.takeBinding_payCksumCalc : s.takeBinding.payCksumCalc = s.payCksumCalc := rfl
@[simp] theorem State.takeBinding_recordsChecked : s.takeBinding.recordsChecked = s.recordsChecked := rfl
@[simp] theorem State.takeBinding_badLenCount : s.takeBinding.badLenCount = s.badLenCount := rfl
@[simp] theorem State.takeBinding_badPayCount : s.takeBinding.badPayCount = s.badPayCount := rfl
@[simp] theorem State.takeBinding_recordsSkipped : s.takeBinding.recordsSkipped = s.recordsSkipped := rfl
@[simp] theorem State.takeBinding_streamOffset : s.takeBinding.streamOffset = s.streamOffset := rfl
@[simp] theorem State.takeBinding_frameStart : s.takeBinding.frameStart = s.frameStart := rfl
@[simp] theorem State.takeBinding_idx : s.takeBinding.idx = s.idx := rfl
@[simp] theorem State.takeBinding_op : s.takeBinding.op = s.op := rfl
@[simp] theorem State.takeBinding_lbuf : s.takeBinding.lbuf = s.lbuf := rfl
@[simp] theorem State.takeBinding_lcs : s.takeBinding.lcs = s.lcs := rfl
@[simp] theorem State.takeBinding_pcs : s.takeBinding.pcs = s.pcs := rfl
@[simp] theorem State.takeBinding_remaining : s.takeBinding.remaining = s.remaining := rfl
@[simp] theorem State.takeBinding_lenAcc : s.takeBinding.lenAcc = s.lenAcc := rfl
@[simp] theorem State.takeBinding_payAcc : s.takeBinding.payAcc = s.payAcc := rfl
@[simp] theorem State.takeBinding_cksAcc : s.takeBinding.cksAcc = s.cksAcc := rfl
@[simp] theorem State.takeBinding_connected : s.takeBinding.connected = none := rfl
@[simp] theorem State.takeBinding_payloadOut : s.takeBinding.payloadOut = s.payloadOut := rfl
@[simp] theorem State.takeBinding_history : s.takeBinding.history = s.history := rfl
@[simp] theorem State.takeBinding_freeReads : s.takeBinding.freeReads = s.freeReads := rfl
@[simp] theorem State.takeBinding_pending : s.takeBinding.pending = s.pending := rfl

@[simp] theorem State.outWrite_busy (b : Byte) : (s.outWrite b).busy = s.busy := rfl
@[simp] theorem State.outWrite_cmdErr (b : Byte) : (s.outWrite b).cmdErr = s.cmdErr := rfl
@[simp] theorem State.outWrite_errCode (b : Byte) : (s.outWrite b).errCode = s.errCode := rfl
@[simp] theorem State.outWrite_inState (b : Byte) : (s.outWrite b).inState = s.inState := rfl
@[simp] theorem State.outWrite_phase (b : Byte) : (s.outWrite b).phase = s.phase := rfl
@[simp] theorem State.outWrite_outcome (b : Byte) : (s.outWrite b).outcome = s.outcome := rfl
@[simp] theorem State.outWrite_verify (b : Byte) : (s.outWrite b).verify = s.verify := rfl
@[simp] theorem State.outWrite_badLen (b : Byte) : (s.outWrite b).badLen = s.badLen := rfl
@[simp] theorem State.outWrite_badPay (b : Byte) : (s.outWrite b).badPay = s.badPay := rfl
@[simp] theorem State.outWrite_stopPhase (b : Byte) : (s.outWrite b).stopPhase = s.stopPhase := rfl
@[simp] theorem State.outWrite_length (b : Byte) : (s.outWrite b).length = s.length := rfl
@[simp] theorem State.outWrite_lenCksumStored (b : Byte) : (s.outWrite b).lenCksumStored = s.lenCksumStored := rfl
@[simp] theorem State.outWrite_lenCksumCalc (b : Byte) : (s.outWrite b).lenCksumCalc = s.lenCksumCalc := rfl
@[simp] theorem State.outWrite_payCksumStored (b : Byte) : (s.outWrite b).payCksumStored = s.payCksumStored := rfl
@[simp] theorem State.outWrite_payCksumCalc (b : Byte) : (s.outWrite b).payCksumCalc = s.payCksumCalc := rfl
@[simp] theorem State.outWrite_recordsChecked (b : Byte) : (s.outWrite b).recordsChecked = s.recordsChecked := rfl
@[simp] theorem State.outWrite_badLenCount (b : Byte) : (s.outWrite b).badLenCount = s.badLenCount := rfl
@[simp] theorem State.outWrite_badPayCount (b : Byte) : (s.outWrite b).badPayCount = s.badPayCount := rfl
@[simp] theorem State.outWrite_recordsSkipped (b : Byte) : (s.outWrite b).recordsSkipped = s.recordsSkipped := rfl
@[simp] theorem State.outWrite_streamOffset (b : Byte) : (s.outWrite b).streamOffset = s.streamOffset := rfl
@[simp] theorem State.outWrite_frameStart (b : Byte) : (s.outWrite b).frameStart = s.frameStart := rfl
@[simp] theorem State.outWrite_idx (b : Byte) : (s.outWrite b).idx = s.idx := rfl
@[simp] theorem State.outWrite_op (b : Byte) : (s.outWrite b).op = s.op := rfl
@[simp] theorem State.outWrite_lbuf (b : Byte) : (s.outWrite b).lbuf = s.lbuf := rfl
@[simp] theorem State.outWrite_lcs (b : Byte) : (s.outWrite b).lcs = s.lcs := rfl
@[simp] theorem State.outWrite_pcs (b : Byte) : (s.outWrite b).pcs = s.pcs := rfl
@[simp] theorem State.outWrite_remaining (b : Byte) : (s.outWrite b).remaining = s.remaining := rfl
@[simp] theorem State.outWrite_lenAcc (b : Byte) : (s.outWrite b).lenAcc = s.lenAcc := rfl
@[simp] theorem State.outWrite_payAcc (b : Byte) : (s.outWrite b).payAcc = s.payAcc := rfl
@[simp] theorem State.outWrite_cksAcc (b : Byte) : (s.outWrite b).cksAcc = s.cksAcc := rfl
@[simp] theorem State.outWrite_binding (b : Byte) : (s.outWrite b).binding = s.binding := rfl
@[simp] theorem State.outWrite_connected (b : Byte) : (s.outWrite b).connected = s.connected := rfl
@[simp] theorem State.outWrite_payloadOut (b : Byte) : (s.outWrite b).payloadOut = s.payloadOut ++ [b] := rfl
@[simp] theorem State.outWrite_history (b : Byte) : (s.outWrite b).history = s.history ++ [.outWrite b] := rfl
@[simp] theorem State.outWrite_freeReads (b : Byte) : (s.outWrite b).freeReads = s.freeReads := rfl
@[simp] theorem State.outWrite_pending (b : Byte) : (s.outWrite b).pending = s.pending := rfl

@[simp] theorem State.finish_busy : s.finish.busy = false := rfl
@[simp] theorem State.finish_cmdErr : s.finish.cmdErr = s.cmdErr := rfl
@[simp] theorem State.finish_errCode : s.finish.errCode = s.errCode := rfl
@[simp] theorem State.finish_inState : s.finish.inState = s.inState := rfl
@[simp] theorem State.finish_phase : s.finish.phase = .idle := rfl
@[simp] theorem State.finish_outcome : s.finish.outcome = s.outcome := rfl
@[simp] theorem State.finish_verify : s.finish.verify = s.verify := rfl
@[simp] theorem State.finish_badLen : s.finish.badLen = s.badLen := rfl
@[simp] theorem State.finish_badPay : s.finish.badPay = s.badPay := rfl
@[simp] theorem State.finish_stopPhase : s.finish.stopPhase = s.stopPhase := rfl
@[simp] theorem State.finish_length : s.finish.length = s.length := rfl
@[simp] theorem State.finish_lenCksumStored : s.finish.lenCksumStored = s.lenCksumStored := rfl
@[simp] theorem State.finish_lenCksumCalc : s.finish.lenCksumCalc = s.lenCksumCalc := rfl
@[simp] theorem State.finish_payCksumStored : s.finish.payCksumStored = s.payCksumStored := rfl
@[simp] theorem State.finish_payCksumCalc : s.finish.payCksumCalc = s.payCksumCalc := rfl
@[simp] theorem State.finish_recordsChecked : s.finish.recordsChecked = s.recordsChecked := rfl
@[simp] theorem State.finish_badLenCount : s.finish.badLenCount = s.badLenCount := rfl
@[simp] theorem State.finish_badPayCount : s.finish.badPayCount = s.badPayCount := rfl
@[simp] theorem State.finish_recordsSkipped : s.finish.recordsSkipped = s.recordsSkipped := rfl
@[simp] theorem State.finish_streamOffset : s.finish.streamOffset = s.streamOffset := rfl
@[simp] theorem State.finish_frameStart : s.finish.frameStart = s.frameStart := rfl
@[simp] theorem State.finish_idx : s.finish.idx = 0 := rfl
@[simp] theorem State.finish_op : s.finish.op = s.op := rfl
@[simp] theorem State.finish_lbuf : s.finish.lbuf = s.lbuf := rfl
@[simp] theorem State.finish_lcs : s.finish.lcs = s.lcs := rfl
@[simp] theorem State.finish_pcs : s.finish.pcs = s.pcs := rfl
@[simp] theorem State.finish_remaining : s.finish.remaining = s.remaining := rfl
@[simp] theorem State.finish_lenAcc : s.finish.lenAcc = s.lenAcc := rfl
@[simp] theorem State.finish_payAcc : s.finish.payAcc = s.payAcc := rfl
@[simp] theorem State.finish_cksAcc : s.finish.cksAcc = s.cksAcc := rfl
@[simp] theorem State.finish_binding : s.finish.binding = s.binding := rfl
@[simp] theorem State.finish_connected : s.finish.connected = s.connected := rfl
@[simp] theorem State.finish_payloadOut : s.finish.payloadOut = s.payloadOut := rfl
@[simp] theorem State.finish_history : s.finish.history = s.history := rfl
@[simp] theorem State.finish_freeReads : s.finish.freeReads = s.freeReads := rfl
@[simp] theorem State.finish_pending : s.finish.pending = s.pending := rfl

@[simp] theorem State.clearFrameResults_busy : s.clearFrameResults.busy = s.busy := rfl
@[simp] theorem State.clearFrameResults_cmdErr : s.clearFrameResults.cmdErr = s.cmdErr := rfl
@[simp] theorem State.clearFrameResults_errCode : s.clearFrameResults.errCode = s.errCode := rfl
@[simp] theorem State.clearFrameResults_inState : s.clearFrameResults.inState = s.inState := rfl
@[simp] theorem State.clearFrameResults_phase : s.clearFrameResults.phase = s.phase := rfl
@[simp] theorem State.clearFrameResults_outcome : s.clearFrameResults.outcome = .none := rfl
@[simp] theorem State.clearFrameResults_verify : s.clearFrameResults.verify = false := rfl
@[simp] theorem State.clearFrameResults_badLen : s.clearFrameResults.badLen = false := rfl
@[simp] theorem State.clearFrameResults_badPay : s.clearFrameResults.badPay = false := rfl
@[simp] theorem State.clearFrameResults_stopPhase : s.clearFrameResults.stopPhase = .idle := rfl
@[simp] theorem State.clearFrameResults_length : s.clearFrameResults.length = 0 := rfl
@[simp] theorem State.clearFrameResults_lenCksumStored : s.clearFrameResults.lenCksumStored = 0 := rfl
@[simp] theorem State.clearFrameResults_lenCksumCalc : s.clearFrameResults.lenCksumCalc = 0 := rfl
@[simp] theorem State.clearFrameResults_payCksumStored : s.clearFrameResults.payCksumStored = 0 := rfl
@[simp] theorem State.clearFrameResults_payCksumCalc : s.clearFrameResults.payCksumCalc = 0 := rfl
@[simp] theorem State.clearFrameResults_recordsChecked : s.clearFrameResults.recordsChecked = s.recordsChecked := rfl
@[simp] theorem State.clearFrameResults_badLenCount : s.clearFrameResults.badLenCount = s.badLenCount := rfl
@[simp] theorem State.clearFrameResults_badPayCount : s.clearFrameResults.badPayCount = s.badPayCount := rfl
@[simp] theorem State.clearFrameResults_recordsSkipped : s.clearFrameResults.recordsSkipped = s.recordsSkipped := rfl
@[simp] theorem State.clearFrameResults_streamOffset : s.clearFrameResults.streamOffset = s.streamOffset := rfl
@[simp] theorem State.clearFrameResults_frameStart : s.clearFrameResults.frameStart = s.frameStart := rfl
@[simp] theorem State.clearFrameResults_idx : s.clearFrameResults.idx = s.idx := rfl
@[simp] theorem State.clearFrameResults_op : s.clearFrameResults.op = s.op := rfl
@[simp] theorem State.clearFrameResults_lbuf : s.clearFrameResults.lbuf = s.lbuf := rfl
@[simp] theorem State.clearFrameResults_lcs : s.clearFrameResults.lcs = s.lcs := rfl
@[simp] theorem State.clearFrameResults_pcs : s.clearFrameResults.pcs = s.pcs := rfl
@[simp] theorem State.clearFrameResults_remaining : s.clearFrameResults.remaining = s.remaining := rfl
@[simp] theorem State.clearFrameResults_lenAcc : s.clearFrameResults.lenAcc = s.lenAcc := rfl
@[simp] theorem State.clearFrameResults_payAcc : s.clearFrameResults.payAcc = s.payAcc := rfl
@[simp] theorem State.clearFrameResults_cksAcc : s.clearFrameResults.cksAcc = s.cksAcc := rfl
@[simp] theorem State.clearFrameResults_binding : s.clearFrameResults.binding = s.binding := rfl
@[simp] theorem State.clearFrameResults_connected : s.clearFrameResults.connected = s.connected := rfl
@[simp] theorem State.clearFrameResults_payloadOut : s.clearFrameResults.payloadOut = s.payloadOut := rfl
@[simp] theorem State.clearFrameResults_history : s.clearFrameResults.history = s.history := rfl
@[simp] theorem State.clearFrameResults_freeReads : s.clearFrameResults.freeReads = s.freeReads := rfl
@[simp] theorem State.clearFrameResults_pending : s.clearFrameResults.pending = s.pending := rfl

@[simp] theorem State.clearSummary_busy : s.clearSummary.busy = s.busy := rfl
@[simp] theorem State.clearSummary_cmdErr : s.clearSummary.cmdErr = s.cmdErr := rfl
@[simp] theorem State.clearSummary_errCode : s.clearSummary.errCode = s.errCode := rfl
@[simp] theorem State.clearSummary_inState : s.clearSummary.inState = s.inState := rfl
@[simp] theorem State.clearSummary_phase : s.clearSummary.phase = s.phase := rfl
@[simp] theorem State.clearSummary_outcome : s.clearSummary.outcome = s.outcome := rfl
@[simp] theorem State.clearSummary_verify : s.clearSummary.verify = s.verify := rfl
@[simp] theorem State.clearSummary_badLen : s.clearSummary.badLen = s.badLen := rfl
@[simp] theorem State.clearSummary_badPay : s.clearSummary.badPay = s.badPay := rfl
@[simp] theorem State.clearSummary_stopPhase : s.clearSummary.stopPhase = s.stopPhase := rfl
@[simp] theorem State.clearSummary_length : s.clearSummary.length = s.length := rfl
@[simp] theorem State.clearSummary_lenCksumStored : s.clearSummary.lenCksumStored = s.lenCksumStored := rfl
@[simp] theorem State.clearSummary_lenCksumCalc : s.clearSummary.lenCksumCalc = s.lenCksumCalc := rfl
@[simp] theorem State.clearSummary_payCksumStored : s.clearSummary.payCksumStored = s.payCksumStored := rfl
@[simp] theorem State.clearSummary_payCksumCalc : s.clearSummary.payCksumCalc = s.payCksumCalc := rfl
@[simp] theorem State.clearSummary_recordsChecked : s.clearSummary.recordsChecked = 0 := rfl
@[simp] theorem State.clearSummary_badLenCount : s.clearSummary.badLenCount = 0 := rfl
@[simp] theorem State.clearSummary_badPayCount : s.clearSummary.badPayCount = 0 := rfl
@[simp] theorem State.clearSummary_recordsSkipped : s.clearSummary.recordsSkipped = 0 := rfl
@[simp] theorem State.clearSummary_streamOffset : s.clearSummary.streamOffset = 0 := rfl
@[simp] theorem State.clearSummary_frameStart : s.clearSummary.frameStart = 0 := rfl
@[simp] theorem State.clearSummary_idx : s.clearSummary.idx = s.idx := rfl
@[simp] theorem State.clearSummary_op : s.clearSummary.op = s.op := rfl
@[simp] theorem State.clearSummary_lbuf : s.clearSummary.lbuf = s.lbuf := rfl
@[simp] theorem State.clearSummary_lcs : s.clearSummary.lcs = s.lcs := rfl
@[simp] theorem State.clearSummary_pcs : s.clearSummary.pcs = s.pcs := rfl
@[simp] theorem State.clearSummary_remaining : s.clearSummary.remaining = s.remaining := rfl
@[simp] theorem State.clearSummary_lenAcc : s.clearSummary.lenAcc = s.lenAcc := rfl
@[simp] theorem State.clearSummary_payAcc : s.clearSummary.payAcc = s.payAcc := rfl
@[simp] theorem State.clearSummary_cksAcc : s.clearSummary.cksAcc = s.cksAcc := rfl
@[simp] theorem State.clearSummary_binding : s.clearSummary.binding = s.binding := rfl
@[simp] theorem State.clearSummary_connected : s.clearSummary.connected = s.connected := rfl
@[simp] theorem State.clearSummary_payloadOut : s.clearSummary.payloadOut = s.payloadOut := rfl
@[simp] theorem State.clearSummary_history : s.clearSummary.history = s.history := rfl
@[simp] theorem State.clearSummary_freeReads : s.clearSummary.freeReads = s.freeReads := rfl
@[simp] theorem State.clearSummary_pending : s.clearSummary.pending = s.pending := rfl

@[simp] theorem State.frameBegin_busy (op : FrameOp) : (s.frameBegin op).busy = true := rfl
@[simp] theorem State.frameBegin_cmdErr (op : FrameOp) : (s.frameBegin op).cmdErr = false := rfl
@[simp] theorem State.frameBegin_errCode (op : FrameOp) : (s.frameBegin op).errCode = none := rfl
@[simp] theorem State.frameBegin_inState (op : FrameOp) : (s.frameBegin op).inState = s.inState := rfl
@[simp] theorem State.frameBegin_phase (op : FrameOp) : (s.frameBegin op).phase = .len := rfl
@[simp] theorem State.frameBegin_outcome (op : FrameOp) : (s.frameBegin op).outcome = .none := rfl
@[simp] theorem State.frameBegin_verify (op : FrameOp) : (s.frameBegin op).verify = (op == .verify) := rfl
@[simp] theorem State.frameBegin_badLen (op : FrameOp) : (s.frameBegin op).badLen = false := rfl
@[simp] theorem State.frameBegin_badPay (op : FrameOp) : (s.frameBegin op).badPay = false := rfl
@[simp] theorem State.frameBegin_stopPhase (op : FrameOp) : (s.frameBegin op).stopPhase = .idle := rfl
@[simp] theorem State.frameBegin_length (op : FrameOp) : (s.frameBegin op).length = 0 := rfl
@[simp] theorem State.frameBegin_lenCksumStored (op : FrameOp) : (s.frameBegin op).lenCksumStored = 0 := rfl
@[simp] theorem State.frameBegin_lenCksumCalc (op : FrameOp) : (s.frameBegin op).lenCksumCalc = 0 := rfl
@[simp] theorem State.frameBegin_payCksumStored (op : FrameOp) : (s.frameBegin op).payCksumStored = 0 := rfl
@[simp] theorem State.frameBegin_payCksumCalc (op : FrameOp) : (s.frameBegin op).payCksumCalc = 0 := rfl
@[simp] theorem State.frameBegin_recordsChecked (op : FrameOp) : (s.frameBegin op).recordsChecked = s.recordsChecked := rfl
@[simp] theorem State.frameBegin_badLenCount (op : FrameOp) : (s.frameBegin op).badLenCount = s.badLenCount := rfl
@[simp] theorem State.frameBegin_badPayCount (op : FrameOp) : (s.frameBegin op).badPayCount = s.badPayCount := rfl
@[simp] theorem State.frameBegin_recordsSkipped (op : FrameOp) : (s.frameBegin op).recordsSkipped = s.recordsSkipped := rfl
@[simp] theorem State.frameBegin_streamOffset (op : FrameOp) : (s.frameBegin op).streamOffset = s.streamOffset := rfl
@[simp] theorem State.frameBegin_frameStart (op : FrameOp) : (s.frameBegin op).frameStart = s.streamOffset := rfl
@[simp] theorem State.frameBegin_idx (op : FrameOp) : (s.frameBegin op).idx = 0 := rfl
@[simp] theorem State.frameBegin_op (op : FrameOp) : (s.frameBegin op).op = op := rfl
@[simp] theorem State.frameBegin_lbuf (op : FrameOp) : (s.frameBegin op).lbuf = 0 := rfl
@[simp] theorem State.frameBegin_lcs (op : FrameOp) : (s.frameBegin op).lcs = 0 := rfl
@[simp] theorem State.frameBegin_pcs (op : FrameOp) : (s.frameBegin op).pcs = 0 := rfl
@[simp] theorem State.frameBegin_remaining (op : FrameOp) : (s.frameBegin op).remaining = 0 := rfl
@[simp] theorem State.frameBegin_lenAcc (op : FrameOp) : (s.frameBegin op).lenAcc = crcInit := rfl
@[simp] theorem State.frameBegin_payAcc (op : FrameOp) : (s.frameBegin op).payAcc = crcInit := rfl
@[simp] theorem State.frameBegin_cksAcc (op : FrameOp) : (s.frameBegin op).cksAcc = s.cksAcc := rfl
@[simp] theorem State.frameBegin_binding (op : FrameOp) : (s.frameBegin op).binding = s.binding := rfl
@[simp] theorem State.frameBegin_connected (op : FrameOp) : (s.frameBegin op).connected = s.connected := rfl
@[simp] theorem State.frameBegin_payloadOut (op : FrameOp) : (s.frameBegin op).payloadOut = s.payloadOut := rfl
@[simp] theorem State.frameBegin_history (op : FrameOp) : (s.frameBegin op).history = s.history := rfl
@[simp] theorem State.frameBegin_freeReads (op : FrameOp) : (s.frameBegin op).freeReads = s.freeReads := rfl
@[simp] theorem State.frameBegin_pending (op : FrameOp) : (s.frameBegin op).pending = s.pending := rfl

@[simp] theorem State.verifyAndCount_busy : s.verifyAndCount.busy = s.busy := rfl
@[simp] theorem State.verifyAndCount_cmdErr : s.verifyAndCount.cmdErr = s.cmdErr := rfl
@[simp] theorem State.verifyAndCount_errCode : s.verifyAndCount.errCode = s.errCode := rfl
@[simp] theorem State.verifyAndCount_inState : s.verifyAndCount.inState = s.inState := rfl
@[simp] theorem State.verifyAndCount_phase : s.verifyAndCount.phase = s.phase := rfl
@[simp] theorem State.verifyAndCount_outcome : s.verifyAndCount.outcome = s.outcome := rfl
@[simp] theorem State.verifyAndCount_verify : s.verifyAndCount.verify = s.verify := rfl
@[simp] theorem State.verifyAndCount_badLen : s.verifyAndCount.badLen = (maskedOfAcc s.lenAcc != s.lcs) := rfl
@[simp] theorem State.verifyAndCount_badPay : s.verifyAndCount.badPay = (maskedOfAcc s.payAcc != s.pcs) := rfl
@[simp] theorem State.verifyAndCount_stopPhase : s.verifyAndCount.stopPhase = s.stopPhase := rfl
@[simp] theorem State.verifyAndCount_length : s.verifyAndCount.length = s.length := rfl
@[simp] theorem State.verifyAndCount_lenCksumStored : s.verifyAndCount.lenCksumStored = s.lenCksumStored := rfl
@[simp] theorem State.verifyAndCount_lenCksumCalc : s.verifyAndCount.lenCksumCalc = maskedOfAcc s.lenAcc := rfl
@[simp] theorem State.verifyAndCount_payCksumStored : s.verifyAndCount.payCksumStored = s.payCksumStored := rfl
@[simp] theorem State.verifyAndCount_payCksumCalc : s.verifyAndCount.payCksumCalc = maskedOfAcc s.payAcc := rfl
@[simp] theorem State.verifyAndCount_recordsChecked : s.verifyAndCount.recordsChecked = s.recordsChecked + 1 := rfl
@[simp] theorem State.verifyAndCount_badLenCount : s.verifyAndCount.badLenCount = (if maskedOfAcc s.lenAcc ≠ s.lcs then s.badLenCount + 1 else s.badLenCount) := rfl
@[simp] theorem State.verifyAndCount_badPayCount : s.verifyAndCount.badPayCount = (if maskedOfAcc s.payAcc ≠ s.pcs then s.badPayCount + 1 else s.badPayCount) := rfl
@[simp] theorem State.verifyAndCount_recordsSkipped : s.verifyAndCount.recordsSkipped = s.recordsSkipped := rfl
@[simp] theorem State.verifyAndCount_streamOffset : s.verifyAndCount.streamOffset = s.streamOffset := rfl
@[simp] theorem State.verifyAndCount_frameStart : s.verifyAndCount.frameStart = s.frameStart := rfl
@[simp] theorem State.verifyAndCount_idx : s.verifyAndCount.idx = s.idx := rfl
@[simp] theorem State.verifyAndCount_op : s.verifyAndCount.op = s.op := rfl
@[simp] theorem State.verifyAndCount_lbuf : s.verifyAndCount.lbuf = s.lbuf := rfl
@[simp] theorem State.verifyAndCount_lcs : s.verifyAndCount.lcs = s.lcs := rfl
@[simp] theorem State.verifyAndCount_pcs : s.verifyAndCount.pcs = s.pcs := rfl
@[simp] theorem State.verifyAndCount_remaining : s.verifyAndCount.remaining = s.remaining := rfl
@[simp] theorem State.verifyAndCount_lenAcc : s.verifyAndCount.lenAcc = s.lenAcc := rfl
@[simp] theorem State.verifyAndCount_payAcc : s.verifyAndCount.payAcc = s.payAcc := rfl
@[simp] theorem State.verifyAndCount_cksAcc : s.verifyAndCount.cksAcc = s.cksAcc := rfl
@[simp] theorem State.verifyAndCount_binding : s.verifyAndCount.binding = s.binding := rfl
@[simp] theorem State.verifyAndCount_connected : s.verifyAndCount.connected = s.connected := rfl
@[simp] theorem State.verifyAndCount_payloadOut : s.verifyAndCount.payloadOut = s.payloadOut := rfl
@[simp] theorem State.verifyAndCount_history : s.verifyAndCount.history = s.history := rfl
@[simp] theorem State.verifyAndCount_freeReads : s.verifyAndCount.freeReads = s.freeReads := rfl
@[simp] theorem State.verifyAndCount_pending : s.verifyAndCount.pending = s.pending := rfl

@[simp] theorem State.skipCount_busy : s.skipCount.busy = s.busy := rfl
@[simp] theorem State.skipCount_cmdErr : s.skipCount.cmdErr = s.cmdErr := rfl
@[simp] theorem State.skipCount_errCode : s.skipCount.errCode = s.errCode := rfl
@[simp] theorem State.skipCount_inState : s.skipCount.inState = s.inState := rfl
@[simp] theorem State.skipCount_phase : s.skipCount.phase = s.phase := rfl
@[simp] theorem State.skipCount_outcome : s.skipCount.outcome = s.outcome := rfl
@[simp] theorem State.skipCount_verify : s.skipCount.verify = s.verify := rfl
@[simp] theorem State.skipCount_badLen : s.skipCount.badLen = s.badLen := rfl
@[simp] theorem State.skipCount_badPay : s.skipCount.badPay = s.badPay := rfl
@[simp] theorem State.skipCount_stopPhase : s.skipCount.stopPhase = s.stopPhase := rfl
@[simp] theorem State.skipCount_length : s.skipCount.length = s.length := rfl
@[simp] theorem State.skipCount_lenCksumStored : s.skipCount.lenCksumStored = s.lenCksumStored := rfl
@[simp] theorem State.skipCount_lenCksumCalc : s.skipCount.lenCksumCalc = s.lenCksumCalc := rfl
@[simp] theorem State.skipCount_payCksumStored : s.skipCount.payCksumStored = s.payCksumStored := rfl
@[simp] theorem State.skipCount_payCksumCalc : s.skipCount.payCksumCalc = s.payCksumCalc := rfl
@[simp] theorem State.skipCount_recordsChecked : s.skipCount.recordsChecked = s.recordsChecked := rfl
@[simp] theorem State.skipCount_badLenCount : s.skipCount.badLenCount = s.badLenCount := rfl
@[simp] theorem State.skipCount_badPayCount : s.skipCount.badPayCount = s.badPayCount := rfl
@[simp] theorem State.skipCount_recordsSkipped : s.skipCount.recordsSkipped = s.recordsSkipped + 1 := rfl
@[simp] theorem State.skipCount_streamOffset : s.skipCount.streamOffset = s.streamOffset := rfl
@[simp] theorem State.skipCount_frameStart : s.skipCount.frameStart = s.frameStart := rfl
@[simp] theorem State.skipCount_idx : s.skipCount.idx = s.idx := rfl
@[simp] theorem State.skipCount_op : s.skipCount.op = s.op := rfl
@[simp] theorem State.skipCount_lbuf : s.skipCount.lbuf = s.lbuf := rfl
@[simp] theorem State.skipCount_lcs : s.skipCount.lcs = s.lcs := rfl
@[simp] theorem State.skipCount_pcs : s.skipCount.pcs = s.pcs := rfl
@[simp] theorem State.skipCount_remaining : s.skipCount.remaining = s.remaining := rfl
@[simp] theorem State.skipCount_lenAcc : s.skipCount.lenAcc = s.lenAcc := rfl
@[simp] theorem State.skipCount_payAcc : s.skipCount.payAcc = s.payAcc := rfl
@[simp] theorem State.skipCount_cksAcc : s.skipCount.cksAcc = s.cksAcc := rfl
@[simp] theorem State.skipCount_binding : s.skipCount.binding = s.binding := rfl
@[simp] theorem State.skipCount_connected : s.skipCount.connected = s.connected := rfl
@[simp] theorem State.skipCount_payloadOut : s.skipCount.payloadOut = s.payloadOut := rfl
@[simp] theorem State.skipCount_history : s.skipCount.history = s.history := rfl
@[simp] theorem State.skipCount_freeReads : s.skipCount.freeReads = s.freeReads := rfl
@[simp] theorem State.skipCount_pending : s.skipCount.pending = s.pending := rfl

/-- A connected source is taken with no byte of it read. -/
@[simp] theorem State.takeBinding_binding_some (input : Input) (h : s.connected = some input) :
    s.takeBinding.binding = .source input 0 := by
  simp [State.takeBinding, h]

/-- With no source connected nothing is known of the answers. -/
@[simp] theorem State.takeBinding_binding_none (h : s.connected = none) :
    s.takeBinding.binding = .unconnected := by
  simp [State.takeBinding, h]


@[simp] theorem State.assertReset_busy : s.assertReset.busy = false := rfl
@[simp] theorem State.assertReset_cmdErr : s.assertReset.cmdErr = false := rfl
@[simp] theorem State.assertReset_errCode : s.assertReset.errCode = none := rfl
@[simp] theorem State.assertReset_inState : s.assertReset.inState = .closed := rfl
@[simp] theorem State.assertReset_phase : s.assertReset.phase = .idle := rfl
@[simp] theorem State.assertReset_outcome : s.assertReset.outcome = .none := rfl
@[simp] theorem State.assertReset_verify : s.assertReset.verify = false := rfl
@[simp] theorem State.assertReset_badLen : s.assertReset.badLen = false := rfl
@[simp] theorem State.assertReset_badPay : s.assertReset.badPay = false := rfl
@[simp] theorem State.assertReset_stopPhase : s.assertReset.stopPhase = .idle := rfl
@[simp] theorem State.assertReset_length : s.assertReset.length = 0 := rfl
@[simp] theorem State.assertReset_lenCksumStored : s.assertReset.lenCksumStored = 0 := rfl
@[simp] theorem State.assertReset_lenCksumCalc : s.assertReset.lenCksumCalc = 0 := rfl
@[simp] theorem State.assertReset_payCksumStored : s.assertReset.payCksumStored = 0 := rfl
@[simp] theorem State.assertReset_payCksumCalc : s.assertReset.payCksumCalc = 0 := rfl
@[simp] theorem State.assertReset_recordsChecked : s.assertReset.recordsChecked = 0 := rfl
@[simp] theorem State.assertReset_badLenCount : s.assertReset.badLenCount = 0 := rfl
@[simp] theorem State.assertReset_badPayCount : s.assertReset.badPayCount = 0 := rfl
@[simp] theorem State.assertReset_recordsSkipped : s.assertReset.recordsSkipped = 0 := rfl
@[simp] theorem State.assertReset_streamOffset : s.assertReset.streamOffset = 0 := rfl
@[simp] theorem State.assertReset_frameStart : s.assertReset.frameStart = 0 := rfl
@[simp] theorem State.assertReset_idx : s.assertReset.idx = 0 := rfl
@[simp] theorem State.assertReset_op : s.assertReset.op = .verify := rfl
@[simp] theorem State.assertReset_lbuf : s.assertReset.lbuf = 0 := rfl
@[simp] theorem State.assertReset_lcs : s.assertReset.lcs = 0 := rfl
@[simp] theorem State.assertReset_pcs : s.assertReset.pcs = 0 := rfl
@[simp] theorem State.assertReset_remaining : s.assertReset.remaining = 0 := rfl
@[simp] theorem State.assertReset_lenAcc : s.assertReset.lenAcc = 0xFFFFFFFF := rfl
@[simp] theorem State.assertReset_payAcc : s.assertReset.payAcc = 0xFFFFFFFF := rfl
@[simp] theorem State.assertReset_cksAcc : s.assertReset.cksAcc = 0xFFFFFFFF := rfl
@[simp] theorem State.assertReset_binding : s.assertReset.binding = .notHeld := rfl
@[simp] theorem State.assertReset_connected : s.assertReset.connected = none := rfl
@[simp] theorem State.assertReset_payloadOut : s.assertReset.payloadOut = [] := rfl
@[simp] theorem State.assertReset_history : s.assertReset.history = s.history ++ [.reset] := rfl
@[simp] theorem State.assertReset_freeReads : s.assertReset.freeReads = s.freeReads := rfl
@[simp] theorem State.assertReset_pending : s.assertReset.pending = s.pending := rfl

end Sys2Proof.Machine
end

