-- ==== Sys2Proof/Laws/Ops.lean ====
section
/-! SUPPORT. What each shared operation can do, said once (60_exceptions.md R226; 20_memory.md R66). -/

namespace Sys2Proof.Machine

/-- Acceptance: a busy block rejects with BUSY, an illegal state with BAD_STATE, else the command has its effect. -/
theorem State.accept_cases (s : State) (legal : Bool) (perform : State → State) :
    (s.busy = true ∧ s.accept legal perform = s.raiseCmdError .busy) ∨
    (s.busy = false ∧ legal = true ∧ s.accept legal perform = perform s) ∨
    (s.busy = false ∧ legal = false ∧ s.accept legal perform = s.raiseCmdError .badState) := by
  cases hb : s.busy <;> cases legal <;> simp [State.accept, hb]

@[simp] theorem State.accept_busy (s : State) (legal : Bool) (perform : State → State) (h : s.busy = true) :
    s.accept legal perform = s.raiseCmdError .busy := by
  simp [State.accept, h]

@[simp] theorem State.accept_legal (s : State) (perform : State → State) (h : s.busy = false) :
    s.accept true perform = perform s := by
  simp [State.accept, h]

@[simp] theorem State.accept_illegal (s : State) (perform : State → State) (h : s.busy = false) :
    s.accept false perform = s.raiseCmdError .badState := by
  simp [State.accept, h]

/-- A source answers the byte at its position, and its term after the last one. -/
theorem sourceAnswer_cases (input : Input) (pos : Nat) :
    (∃ b, input.data[pos]? = some b ∧ sourceAnswer input pos = .byte b) ∨
    (input.data[pos]? = none ∧ sourceAnswer input pos = termAnswer input.term) := by
  unfold sourceAnswer
  cases h : input.data[pos]? <;> simp

/-- One transfer: what it may answer, and the state after it. -/
theorem State.inRead_cases (s : State) :
    (s.binding = .notHeld ∧ s.inRead = (none, s)) ∨
    (s.binding = .unconnected ∧
      s.inRead = (Config.unconnectedAnswer s.freeReads, { s with freeReads := s.freeReads + 1 })) ∨
    (∃ input pos b, s.binding = .source input pos ∧ input.data[pos]? = some b ∧
      s.inRead = (some (.byte b), { s with binding := .source input (pos + 1) })) ∨
    (∃ input pos, s.binding = .source input pos ∧ input.data[pos]? = none ∧
      s.inRead = (some (termAnswer input.term), s)) := by
  unfold State.inRead
  cases hb : s.binding with
  | notHeld => simp
  | unconnected => simp
  | source input pos =>
    rcases sourceAnswer_cases input pos with ⟨b, h1, h2⟩ | ⟨h1, h2⟩
    · exact .inr (.inr (.inl ⟨input, pos, b, rfl, h1, by simp [h2]⟩))
    · refine .inr (.inr (.inr ⟨input, pos, rfl, h1, ?_⟩))
      cases ht : input.term <;> simp [h2, ht, termAnswer]

/-- A transfer changes the source's position or the count of free answers, and nothing else. -/
theorem State.inRead_frame (s : State) :
    ∃ binding freeReads, s.inRead.2 = { s with binding := binding, freeReads := freeReads } := by
  rcases s.inRead_cases with ⟨_, h⟩ | ⟨_, h⟩ | ⟨input, pos, b, _, _, h⟩ | ⟨input, pos, _, _, h⟩
  · exact ⟨s.binding, s.freeReads, by rw [h]⟩
  · exact ⟨s.binding, s.freeReads + 1, by rw [h]⟩
  · exact ⟨.source input (pos + 1), s.freeReads, by rw [h]⟩
  · exact ⟨s.binding, s.freeReads, by rw [h]⟩

/-- A transfer that a source answers. -/
theorem State.inRead_byte (s : State) (input : Input) (pos : Nat) (b : Byte)
    (hb : s.binding = .source input pos) (hd : input.data[pos]? = some b) :
    s.inRead = (some (.byte b), { s with binding := .source input (pos + 1) }) := by
  simp [State.inRead, hb, sourceAnswer, hd]

/-- A transfer after the last byte. -/
theorem State.inRead_term (s : State) (input : Input) (pos : Nat)
    (hb : s.binding = .source input pos) (hd : input.data[pos]? = none) :
    s.inRead = (some (termAnswer input.term), s) := by
  cases ht : input.term <;> simp [State.inRead, hb, sourceAnswer, hd, ht, termAnswer]

end Sys2Proof.Machine
end

