-- ==== Sys2Proof/Laws/Engine.lean ====
section
/-! SUPPORT. What an engine step can do, said once (41_frame_reader.md R154 to R168). -/

namespace Sys2Proof.Machine

/-- The engine has a step only while BUSY = 1, outside phase IDLE, and when something answers. -/
theorem engineStep_cases (s : State) :
    (s.busy = false ∧ engineStep s = .next s) ∨
    (s.busy = true ∧ s.phase = .idle ∧ engineStep s = .fault .engineStepInIdlePhase) ∨
    (s.busy = true ∧ s.phase ≠ .idle ∧ s.inRead.1 = none ∧ engineStep s = .next s.inRead.2) ∨
    (∃ a, s.busy = true ∧ s.phase ≠ .idle ∧ s.inRead.1 = some a ∧ engineStep s = .next (s.inRead.2.onAnswer a)) := by
  unfold engineStep
  by_cases hb : s.busy = false
  · simp [hb]
  · have hb' : s.busy = true := by simpa using hb
    by_cases hp : s.phase = .idle
    · simp [hb', hp]
    · rcases h : s.inRead with ⟨_ | a, s'⟩ <;> simp [hb', hp]

/-- An engine step that a source answers with a byte. -/
theorem engineStep_byte (s : State) (input : Input) (pos : Nat) (b : Byte) (hs : s.busy = true) (hp : s.phase ≠ .idle)
    (hb : s.binding = .source input pos) (hd : input.data[pos]? = some b) :
    engineStep s = .next (State.onByte { s with binding := .source input (pos + 1) } b) := by
  simp [engineStep, hs, hp, s.inRead_byte input pos b hb hd, State.onAnswer]

/-- An engine step after the last byte of a source. -/
theorem engineStep_term (s : State) (input : Input) (pos : Nat) (hs : s.busy = true) (hp : s.phase ≠ .idle)
    (hb : s.binding = .source input pos) (hd : input.data[pos]? = none) :
    engineStep s = .next (s.onAnswer (termAnswer input.term)) := by
  simp [engineStep, hs, hp, s.inRead_term input pos hb hd]

/-- The bytes of a frame go to the field of the phase (R154). -/
theorem State.onByte_cases (s : State) (b : Byte) :
    (s.phase = .idle ∧ s.onByte b = { s with streamOffset := s.streamOffset + 1 }) ∨
    (s.phase = .len ∧ s.onByte b = State.lenByte { s with streamOffset := s.streamOffset + 1 } b) ∨
    (s.phase = .lcrc ∧ s.onByte b = State.lcrcByte { s with streamOffset := s.streamOffset + 1 } b) ∨
    (s.phase = .pay ∧ s.onByte b = State.payByte { s with streamOffset := s.streamOffset + 1 } b) ∨
    (s.phase = .pcrc ∧ s.onByte b = State.pcrcByte { s with streamOffset := s.streamOffset + 1 } b) := by
  cases h : s.phase <;> simp [State.onByte, h]

/-- A length byte that is not the 8th. -/
theorem State.lenByte_of_ne (s : State) (b : Byte) (h : s.idx ≠ 7) :
    s.lenByte b = { s with
      lbuf := placeByte s.lbuf s.idx.toNat b
      lenAcc := if s.op = .verify then crcUpd s.lenAcc b else s.lenAcc
      idx := s.idx + 1 } := by
  unfold State.lenByte
  exact if_neg h

/-- The 8th length byte. -/
theorem State.lenByte_last (s : State) (b : Byte) (h : s.idx = 7) :
    s.lenByte b = { s with
      lbuf := placeByte s.lbuf s.idx.toNat b
      lenAcc := if s.op = .verify then crcUpd s.lenAcc b else s.lenAcc
      length := placeByte s.lbuf s.idx.toNat b
      remaining := placeByte s.lbuf s.idx.toNat b
      phase := .lcrc
      idx := 0 } := by
  unfold State.lenByte
  exact if_pos h

/-- A length_checksum byte that is not the 4th. -/
theorem State.lcrcByte_of_ne (s : State) (b : Byte) (h : s.idx ≠ 3) :
    s.lcrcByte b = { s with lcs := placeByte s.lcs s.idx.toNat b, idx := s.idx + 1 } := by
  unfold State.lcrcByte
  exact if_neg h

/-- The 4th length_checksum byte. -/
theorem State.lcrcByte_last (s : State) (b : Byte) (h : s.idx = 3) :
    s.lcrcByte b = { s with
      lcs := placeByte s.lcs s.idx.toNat b
      lenCksumStored := placeByte s.lcs s.idx.toNat b
      idx := 0
      phase := if s.remaining = 0 then .pcrc else .pay } := by
  unfold State.lcrcByte
  exact if_pos h

/-- A payload byte that is not the last. -/
theorem State.payByte_of_ne (s : State) (b : Byte) (h : s.remaining - 1 ≠ 0) :
    s.payByte b = { s.outWrite b with
      payAcc := if s.op = .verify then crcUpd s.payAcc b else s.payAcc
      remaining := s.remaining - 1 } := by
  unfold State.payByte
  exact if_neg h

/-- The last payload byte. -/
theorem State.payByte_last (s : State) (b : Byte) (h : s.remaining - 1 = 0) :
    s.payByte b = { s.outWrite b with
      payAcc := if s.op = .verify then crcUpd s.payAcc b else s.payAcc
      remaining := s.remaining - 1
      phase := .pcrc
      idx := 0 } := by
  unfold State.payByte
  exact if_pos h

/-- A payload_checksum byte that is not the 4th. -/
theorem State.pcrcByte_of_ne (s : State) (b : Byte) (h : s.idx ≠ 3) :
    s.pcrcByte b = { s with pcs := placeByte s.pcs s.idx.toNat b, idx := s.idx + 1 } := by
  unfold State.pcrcByte
  exact if_neg h

/-- The 4th payload_checksum byte. -/
theorem State.pcrcByte_last (s : State) (b : Byte) (h : s.idx = 3) :
    s.pcrcByte b = State.completeFrame { s with
      pcs := placeByte s.pcs s.idx.toNat b
      payCksumStored := placeByte s.pcs s.idx.toNat b } := by
  unfold State.pcrcByte
  exact if_pos h

/-- The end of a frame that NEXT began. -/
theorem State.completeFrame_verify (s : State) (h : s.op = .verify) :
    s.completeFrame = { s.verifyAndCount with outcome := .frame, phase := .idle, idx := 0, busy := false } := by
  simp [State.completeFrame, h, State.finish]

/-- The end of a frame that SKIP began. -/
theorem State.completeFrame_skip (s : State) (h : s.op = .skip) :
    s.completeFrame = { s.skipCount with outcome := .frame, phase := .idle, idx := 0, busy := false } := by
  simp [State.completeFrame, h, State.finish]

/-- END is a clean end or a truncation. -/
theorem State.onEnd_cases (s : State) :
    (s.phase = .len ∧ s.idx = 0 ∧ s.onEnd = s.cleanEnd) ∨
    (¬ (s.phase = .len ∧ s.idx = 0) ∧ s.onEnd = s.stopTruncated) := by
  unfold State.onEnd
  by_cases h : s.phase = .len ∧ s.idx = 0
  · exact .inl ⟨h.1, h.2, by rw [if_pos h]⟩
  · exact .inr ⟨h, by rw [if_neg h]⟩

/-- An engine step makes no move of its own: the moves still to come stay as they are. -/
theorem State.onAnswer_pending (s : State) (a : Answer) : (s.onAnswer a).pending = s.pending := by
  cases a with
  | error => rfl
  | endOfInput =>
    rcases s.onEnd_cases with ⟨_, _, h⟩ | ⟨_, h⟩ <;> simp only [State.onAnswer, h] <;> rfl
  | byte b =>
    simp only [State.onAnswer]
    rcases s.onByte_cases b with ⟨_, h⟩ | ⟨_, h⟩ | ⟨_, h⟩ | ⟨_, h⟩ | ⟨_, h⟩ <;> rw [h]
    · simp only [State.lenByte]; split <;> rfl
    · simp only [State.lcrcByte]; split <;> rfl
    · simp only [State.payByte]; split <;> rfl
    · simp only [State.pcrcByte, State.completeFrame]; split
      · split <;> rfl
      · rfl

end Sys2Proof.Machine
end

