-- ==== Sys2Proof/Laws/Operands.lean ====
section
/-! SUPPORT. The bits of a placed byte and of a little-endian assembly, and that placing the bytes of a field one after the
other assembles it (10_state.md R45). -/

namespace Sys2Proof.Machine

/-- A placed byte takes its lane and leaves every other bit. -/
theorem placeByte_getLsbD {w : Nat} (v : BitVec w) (k : Nat) (b : Byte) (i : Nat) (hi : i < w) :
    (placeByte v k b).getLsbD i
      = if 8 * k ≤ i ∧ i < 8 * k + 8 then b.getLsbD (i - 8 * k) else v.getLsbD i := by
  unfold placeByte
  simp only [BitVec.getLsbD_or, BitVec.getLsbD_and, BitVec.getLsbD_not, BitVec.getLsbD_shiftLeft,
    BitVec.getLsbD_setWidth, hi, decide_true, Bool.true_and]
  by_cases h1 : 8 * k ≤ i
  · have hlt : ¬ i < 8 * k := by omega
    have hw : i - 8 * k < w := by omega
    by_cases h2 : i < 8 * k + 8
    · have h3 : i - 8 * k < 8 := by omega
      have h255 : (0xFF#8).getLsbD (i - 8 * k) = true := by
        interval_cases (i - 8 * k) <;> rfl
      simp [h1, h2, hlt, hw, h255]
    · have h3 : b.getLsbD (i - 8 * k) = false := BitVec.getLsbD_of_ge b _ (by omega)
      have h4 : (0xFF#8).getLsbD (i - 8 * k) = false := BitVec.getLsbD_of_ge _ _ (by omega)
      simp [h2, h3, h4]
  · have hlt : i < 8 * k := by omega
    simp [h1, hlt]

/-- The bits of le(bytes): bit i is bit i mod 8 of byte i / 8. -/
theorem le_getLsbD (w : Nat) (bytes : List Byte) (i : Nat) (hi : i < w) :
    (le w bytes).getLsbD i = (bytes[i / 8]?.getD 0).getLsbD (i % 8) := by
  induction bytes generalizing i with
  | nil => simp [le]
  | cons b bs ih =>
    simp only [le, BitVec.getLsbD_or, BitVec.getLsbD_shiftLeft, BitVec.getLsbD_setWidth, hi, decide_true, Bool.true_and]
    by_cases h : i < 8
    · have hd : i / 8 = 0 := by omega
      have hm : i % 8 = i := by omega
      simp [h, hd, hm]
    · obtain ⟨k, hk⟩ : ∃ k, i / 8 = k + 1 := ⟨i / 8 - 1, by omega⟩
      have hs : (i - 8) / 8 = k := by omega
      have hm : (i - 8) % 8 = i % 8 := by omega
      have hb : b.getLsbD i = false := BitVec.getLsbD_of_ge b i (by omega)
      rw [ih (i - 8) (by omega), hs, hm, hk, hb]
      simp [h]

/-- Placing the next byte of a field extends its assembly. -/
theorem placeByte_le (w : Nat) (bytes : List Byte) (b : Byte) :
    placeByte (le w bytes) bytes.length b = le w (bytes ++ [b]) := by
  apply BitVec.eq_of_getLsbD_eq
  intro i hi
  rw [placeByte_getLsbD _ _ _ _ hi, le_getLsbD w _ i hi, le_getLsbD w _ i hi]
  by_cases h : 8 * bytes.length ≤ i ∧ i < 8 * bytes.length + 8
  · have hd : i / 8 = bytes.length := by omega
    have hm : i - 8 * bytes.length = i % 8 := by omega
    simp [h, hd, hm]
  · rw [if_neg h]
    by_cases hl : i / 8 < bytes.length
    · rw [List.getElem?_append_left hl]
    · rw [List.getElem?_eq_none (by omega), List.getElem?_eq_none (by simp; omega)]

/-- A register is its two halves (20_memory.md R63). -/
theorem highHalf_append_lowHalf (x : DWord) : highHalf x ++ lowHalf x = x := by
  apply BitVec.eq_of_getLsbD_eq
  intro i hi
  simp only [highHalf, lowHalf, BitVec.getLsbD_append, BitVec.getLsbD_extractLsb']
  by_cases h : i < 32
  · simp [h]
  · simp only [h, if_false]
    have : 32 + (i - 32) = i := by omega
    simp [this]
    omega

end Sys2Proof.Machine
end

