-- ==== Sys2Proof/Laws/PerInstr.lean ====
section
/-! SUPPORT. The family EncodesWellFormed, one lemma per instruction: the fields of its encoding are those of a command
(30_encoding.md R100 to R104). -/

/-- The encoded fields have an assigned opcode, no reserved bit and no unused IMM8. -/
def Sys2Proof.Laws.EncodesWellFormed.Statement (i : Sys2Proof.Instr) : Prop :=
  (Sys2Proof.fieldsOf (Sys2Proof.encode i)).wellFormed = true

theorem Sys2Proof.Laws.EncodesWellFormed.openInput :
    Sys2Proof.Laws.EncodesWellFormed.Statement .openInput := by
  unfold Sys2Proof.Laws.EncodesWellFormed.Statement; decide

theorem Sys2Proof.Laws.EncodesWellFormed.nextFrame :
    Sys2Proof.Laws.EncodesWellFormed.Statement .nextFrame := by
  unfold Sys2Proof.Laws.EncodesWellFormed.Statement; decide

theorem Sys2Proof.Laws.EncodesWellFormed.skipFrame :
    Sys2Proof.Laws.EncodesWellFormed.Statement .skipFrame := by
  unfold Sys2Proof.Laws.EncodesWellFormed.Statement; decide

theorem Sys2Proof.Laws.EncodesWellFormed.closeInput :
    Sys2Proof.Laws.EncodesWellFormed.Statement .closeInput := by
  unfold Sys2Proof.Laws.EncodesWellFormed.Statement; decide

theorem Sys2Proof.Laws.EncodesWellFormed.cksInit :
    Sys2Proof.Laws.EncodesWellFormed.Statement .cksInit := by
  unfold Sys2Proof.Laws.EncodesWellFormed.Statement; decide

theorem Sys2Proof.Laws.EncodesWellFormed.cksByte (b : Sys2Proof.Byte) :
    Sys2Proof.Laws.EncodesWellFormed.Statement (.cksByte b) := by
  simp [Sys2Proof.Laws.EncodesWellFormed.Statement, Sys2Proof.CmdFields.wellFormed,
    Sys2Proof.CmdFields.opcodeAssigned, Sys2Proof.CmdFields.reservedClear, Sys2Proof.assignedOpcodes,
    Sys2Proof.opcodeOf]
end

