-- ==== Sys2Proof/Laws/Window.lean ====
section
/-! SUPPORT. What an access to the register window does (10_state.md R21, R43; 20_memory.md R60 to R64). -/

namespace Sys2Proof.Machine

/-- CMD is at offset 0 only. -/
theorem regAt_cmd_iff (off : Nat) : regAt off = some .cmd ↔ off = 0 := by
  constructor
  · intro h
    by_contra hne
    simp only [regAt, regMap, List.lookup] at h
    repeat' split at h
    all_goals simp_all
  · rintro rfl; rfl

/-- The one write with an effect is the aligned 32-bit write at offset 0. -/
theorem writesCmd_iff (off width : Nat) : writesCmd off width = true ↔ off = 0 ∧ width = 4 := by
  simp only [writesCmd, accessDefined, Bool.and_eq_true, beq_iff_eq, regAt_cmd_iff]
  constructor
  · rintro ⟨⟨h1, _⟩, h2⟩; exact ⟨h2, h1⟩
  · rintro ⟨rfl, rfl⟩; simp

/-- An access that is not aligned and 32 bits wide reads 0 (R61). -/
theorem State.memRead_undefined (s : State) (off width : Nat) (h : accessDefined off width = false) :
    s.memRead off width = 0 := by
  simp [State.memRead, h]

/-- A reserved offset reads 0 (R43). -/
theorem State.memRead_reserved (s : State) (off width : Nat) (h : regAt off = none) : s.memRead off width = 0 := by
  simp only [State.memRead, h]
  split <;> rfl

/-- A listed offset reads its register (R21). -/
theorem State.memRead_listed (s : State) (off : Nat) (r : Reg) (ha : off % 4 = 0) (h : regAt off = some r) :
    s.memRead off 4 = s.readReg r := by
  simp [State.memRead, accessDefined, ha, h]

/-- An offset of the window is the offset of its host address. -/
theorem windowOffset_base (off : Nat) (h : off < windowSize) : windowOffset (Config.regBase + off) = some off := by
  simp [windowOffset, h]

/-- A read of the host changes nothing but the history. -/
theorem hostRead_next (off width : Nat) (s t : State) (h : hostRead off width s = .next t) :
    off < windowSize ∧ t = { s with history := s.history ++ [.readData off width (s.memRead off width)] } := by
  unfold hostRead at h
  split at h
  · exact ⟨by assumption, (Host.Outcome.next.inj h).symm⟩
  · cases h

/-- An ignored write changes nothing. -/
theorem hostWriteIgnored_next (off : Nat) (s t : State) (h : hostWriteIgnored off s = .next t) :
    off < windowSize ∧ t = s := by
  unfold hostWriteIgnored at h
  split at h
  · exact ⟨by assumption, (Host.Outcome.next.inj h).symm⟩
  · cases h

/-- A binding connects its source, outside IN_STATE OPEN only. -/
theorem hostBind_next (input : Input) (s t : State) (h : hostBind input s = .next t) :
    s.inState ≠ .opened ∧ t = { s with connected := some input } := by
  unfold hostBind at h
  split at h
  · cases h
  · exact ⟨by assumption, (Host.Outcome.next.inj h).symm⟩

end Sys2Proof.Machine
end

