-- ==== Sys2Proof/Laws/Step.lean ====
section
/-! SUPPORT. What a step can do, said once (20_memory.md R75), and runs of the machine move by move. -/

namespace Sys2Proof.Machine

/-- Every command ends in a next state: an accepted one in its effect, a rejected one with its code (60_exceptions.md R226). -/
theorem exec_next (i : Instr) (s : State) :
    ∃ legal perform, exec i s = .next (s.accept legal perform) ∧
      ((i = .openInput ∧ legal = (s.inState != .opened) ∧ perform = State.performOpen) ∨
       (i = .nextFrame ∧ legal = (s.inState == .opened) ∧ perform = fun s => s.frameBegin .verify) ∨
       (i = .skipFrame ∧ legal = (s.inState == .opened) ∧ perform = fun s => s.frameBegin .skip) ∨
       (i = .closeInput ∧ legal = (s.inState == .opened) ∧ perform = State.performClose) ∨
       (i = .cksInit ∧ legal = true ∧ perform = State.performCksInit) ∨
       (∃ b, i = .cksByte b ∧ legal = true ∧ perform = fun s => s.performCksByte b)) := by
  cases i with
  | openInput => exact ⟨_, _, rfl, .inl ⟨rfl, rfl, rfl⟩⟩
  | nextFrame => exact ⟨_, _, rfl, .inr (.inl ⟨rfl, rfl, rfl⟩)⟩
  | skipFrame => exact ⟨_, _, rfl, .inr (.inr (.inl ⟨rfl, rfl, rfl⟩))⟩
  | closeInput => exact ⟨_, _, rfl, .inr (.inr (.inr (.inl ⟨rfl, rfl, rfl⟩)))⟩
  | cksInit => exact ⟨_, _, rfl, .inr (.inr (.inr (.inr (.inl ⟨rfl, rfl, rfl⟩))))⟩
  | cksByte b => exact ⟨_, _, rfl, .inr (.inr (.inr (.inr (.inr ⟨b, rfl, rfl, rfl⟩))))⟩

/-- What a decoded command can do: rejected with BUSY or BAD_STATE, or one of the six effects. -/
theorem exec_cases (i : Instr) (s t : State) (h : exec i s = .next t) :
    (s.busy = true ∧ t = s.raiseCmdError .busy) ∨
    (s.busy = false ∧ t = s.raiseCmdError .badState ∧
      ((i = .openInput ∧ s.inState = .opened) ∨
       ((i = .nextFrame ∨ i = .skipFrame ∨ i = .closeInput) ∧ s.inState ≠ .opened))) ∨
    (s.busy = false ∧ i = .openInput ∧ s.inState ≠ .opened ∧ t = s.performOpen) ∨
    (s.busy = false ∧ i = .nextFrame ∧ s.inState = .opened ∧ t = s.frameBegin .verify) ∨
    (s.busy = false ∧ i = .skipFrame ∧ s.inState = .opened ∧ t = s.frameBegin .skip) ∨
    (s.busy = false ∧ i = .closeInput ∧ s.inState = .opened ∧ t = s.performClose) ∨
    (s.busy = false ∧ i = .cksInit ∧ t = s.performCksInit) ∨
    (∃ b, s.busy = false ∧ i = .cksByte b ∧ t = s.performCksByte b) := by
  cases hb : s.busy
  · cases i <;> simp only [exec, execOpen, execNext, execSkip, execClose, execCksInit, execCksByte,
      Host.Outcome.next.injEq] at h <;> subst h <;> by_cases ho : s.inState = .opened <;>
      simp [State.accept, hb, ho]
  · obtain ⟨legal, perform, he, _⟩ := exec_next i s
    rw [he] at h
    exact .inl ⟨rfl, by rw [← Host.Outcome.next.inj h, State.accept_busy s legal perform hb]⟩

/-- Nothing moves when no move is pending. -/
theorem step_nil (s : State) (h : s.pending = []) : step s = .next s := by
  simp [step, fetch, h]

/-- The host writes a command word. -/
theorem step_writeCmd (s : State) (w : Word) (rest : List Move) (h : s.pending = .write 0 4 w :: rest) :
    step s = match decode w with
      | .cmd i => exec i { s with pending := rest }
      | .reject c => .next (State.raiseCmdError { s with pending := rest } c) := by
  have hw : writesCmd 0 4 = true := by decide
  simp only [step, fetch, h, takeMove, hw, if_true, commandTurn]
  cases decode w <;> rfl

/-- The host writes to anything but CMD. -/
theorem step_writeIgnored (s : State) (off width : Nat) (v : Word) (rest : List Move)
    (h : s.pending = .write off width v :: rest) (hn : ¬ (off = 0 ∧ width = 4)) :
    step s = hostWriteIgnored off { s with pending := rest } := by
  have hw : writesCmd off width = false := by
    rw [← Bool.not_eq_true, writesCmd_iff]; exact hn
  simp [step, fetch, h, takeMove, hw]

/-- The host reads a register. -/
theorem step_read (s : State) (off width : Nat) (rest : List Move) (h : s.pending = .read off width :: rest) :
    step s = hostRead off width { s with pending := rest } := by
  simp [step, fetch, h, takeMove]

/-- The host connects a source. -/
theorem step_bind (s : State) (input : Input) (rest : List Move) (h : s.pending = .bind input :: rest) :
    step s = hostBind input { s with pending := rest } := by
  simp [step, fetch, h, takeMove]

/-- The reset input is asserted. -/
theorem step_reset (s : State) (rest : List Move) (h : s.pending = .reset :: rest) :
    step s = .next (State.assertReset { s with pending := rest }) := by
  simp [step, fetch, h, takeMove]

/-- The source answers. -/
theorem step_answer (s : State) (rest : List Move) (h : s.pending = .answer :: rest) :
    step s = engineStep { s with pending := rest } := by
  simp [step, fetch, h, takeMove]

/-- What a step to a next state can be. -/
theorem step_cases (s t : State) (h : step s = .next t) :
    (s.pending = [] ∧ t = s) ∨
    (∃ w rest i, s.pending = .write 0 4 w :: rest ∧ decode w = .cmd i ∧ exec i { s with pending := rest } = .next t) ∨
    (∃ w rest c, s.pending = .write 0 4 w :: rest ∧ decode w = .reject c ∧
      t = State.raiseCmdError { s with pending := rest } c) ∨
    (∃ off width v rest, s.pending = .write off width v :: rest ∧ ¬ (off = 0 ∧ width = 4) ∧ off < windowSize ∧
      t = { s with pending := rest }) ∨
    (∃ off width rest, s.pending = .read off width :: rest ∧ off < windowSize ∧
      t = { s with pending := rest, history := s.history ++ [.readData off width (s.memRead off width)] }) ∨
    (∃ input rest, s.pending = .bind input :: rest ∧ s.inState ≠ .opened ∧
      t = { s with pending := rest, connected := some input }) ∨
    (∃ rest, s.pending = .reset :: rest ∧ t = State.assertReset { s with pending := rest }) ∨
    (∃ rest, s.pending = .answer :: rest ∧ engineStep { s with pending := rest } = .next t) := by
  cases hp : s.pending with
  | nil =>
    rw [step_nil s hp] at h
    exact .inl ⟨rfl, (Host.Outcome.next.inj h).symm⟩
  | cons m rest =>
    refine .inr ?_
    cases m with
    | write off width v =>
      by_cases hc : off = 0 ∧ width = 4
      · obtain ⟨rfl, rfl⟩ := hc
        rw [step_writeCmd s v rest hp] at h
        cases hd : decode v with
        | cmd i => rw [hd] at h; exact .inl ⟨v, rest, i, rfl, hd, h⟩
        | reject c => rw [hd] at h; exact .inr (.inl ⟨v, rest, c, rfl, hd, (Host.Outcome.next.inj h).symm⟩)
      · rw [step_writeIgnored s off width v rest hp hc] at h
        obtain ⟨hw, rfl⟩ := hostWriteIgnored_next _ _ _ h
        exact .inr (.inr (.inl ⟨off, width, v, rest, rfl, hc, hw, rfl⟩))
    | read off width =>
      rw [step_read s off width rest hp] at h
      obtain ⟨hw, rfl⟩ := hostRead_next _ _ _ _ h
      exact .inr (.inr (.inr (.inl ⟨off, width, rest, rfl, hw, rfl⟩)))
    | bind input =>
      rw [step_bind s input rest hp] at h
      obtain ⟨hw, rfl⟩ := hostBind_next _ _ _ h
      exact .inr (.inr (.inr (.inr (.inl ⟨input, rest, rfl, hw, rfl⟩))))
    | reset =>
      rw [step_reset s rest hp] at h
      exact .inr (.inr (.inr (.inr (.inr (.inl ⟨rest, rfl, (Host.Outcome.next.inj h).symm⟩)))))
    | answer =>
      rw [step_answer s rest hp] at h
      exact .inr (.inr (.inr (.inr (.inr (.inr ⟨rest, rfl, h⟩)))))

/-- A run of one more step. -/
theorem run_succ (k : Nat) (s t : State) (h : step s = .next t) :
    Sys2Proof.core.run (k + 1) s = Sys2Proof.core.run k t := by
  have : Sys2Proof.core.step s = .next t := h
  simp only [Host.Core.run]
  rw [this]

/-- A run in two parts. -/
theorem run_add (j k : Nat) (s t : State) (h : Sys2Proof.core.run j s = .next t) :
    Sys2Proof.core.run (j + k) s = Sys2Proof.core.run k t := by
  induction j generalizing s with
  | zero =>
    have : s = t := Host.Outcome.next.inj h
    subst this; simp
  | succ j ih =>
    have e : j + 1 + k = (j + k) + 1 := by omega
    rw [e]
    simp only [Host.Core.run] at h ⊢
    cases hs : Sys2Proof.core.step s with
    | next u => rw [hs] at h; exact ih u h
    | fault r => rw [hs] at h; cases h
    | refused r => rw [hs] at h; cases h

end Sys2Proof.Machine
end

