-- ==== Sys2Proof/Tests/Slice0.lean ====
section
/-! SUPPORT. Named tests: the ill-formed command fields each check refuses, one word per command written out from the spec's
encoding, one or two single steps per command with the values of 95_test_vectors.md, and for every statement with hypotheses a
concrete state that meets them. -/

namespace Sys2Proof.Tests

open Sys2Proof.Machine

/-! ### WellFormed: each check refuses a term -/

theorem test_opcode_zero_refused : CmdFields.opcodeAssigned { opc := 0x00, imm8 := 0, rsvd := 0 } = false := by decide
theorem test_opcode_five_refused : CmdFields.wellFormed { opc := 0x05, imm8 := 0, rsvd := 0 } = false := by decide
theorem test_rsvd_bit_refused : CmdFields.reservedClear { opc := 0x11, imm8 := 0, rsvd := 0x8000 } = false := by decide
theorem test_unused_imm8_refused : CmdFields.reservedClear { opc := 0x02, imm8 := 0xFF, rsvd := 0 } = false := by decide
theorem test_cks_byte_imm8_accepted : CmdFields.wellFormed { opc := 0x11, imm8 := 0xFF, rsvd := 0 } = true := by decide

/-! ### Decode: words written bit by bit from 30_encoding.md R100 and R101 (RSVD, IMM8, OPC) -/

theorem test_decode_open : decode 0b0000000000000000_00000000_00000001 = .cmd .openInput := by decide
theorem test_decode_next : decode 0b0000000000000000_00000000_00000010 = .cmd .nextFrame := by decide
theorem test_decode_skip : decode 0b0000000000000000_00000000_00000011 = .cmd .skipFrame := by decide
theorem test_decode_close : decode 0b0000000000000000_00000000_00000100 = .cmd .closeInput := by decide
theorem test_decode_cks_init : decode 0b0000000000000000_00000000_00010000 = .cmd .cksInit := by decide
/-- cks.byte 0x68, the first byte of program P3. -/
theorem test_decode_cks_byte : decode 0b0000000000000000_01101000_00010001 = .cmd (.cksByte 0x68) := by decide
/-- V-E11. -/
theorem test_decode_reserved_opcode : decode 0x000000FF = .reject .rsvdOpcode := by decide
/-- V-E4, V-K8 and V-K9. -/
theorem test_decode_reserved_bits :
    decode 0x0000FF02 = .reject .rsvdBits ∧ decode 0x00010011 = .reject .rsvdBits ∧
    decode 0x00000110 = .reject .rsvdBits := by decide
/-- A reserved opcode outranks a reserved bit (60_exceptions.md R227). -/
theorem test_decode_priority : decode 0x00010005 = .reject .rsvdOpcode := by decide
theorem test_decodeTableWord : decodeTableWord 32 0x11 = some (.cksByte 0) ∧ decodeTableWord 32 0x05 = none := by decide

/-! ### Small states -/

/-- The state a step leads to. -/
def after (s : State) : State :=
  match step s with
  | .next t => t
  | .fault _ => s
  | .refused _ => s

/-- H, the frame of "hello" (95_test_vectors.md). -/
def helloFrame : List Byte :=
  [0x05, 0, 0, 0, 0, 0, 0, 0, 0xea, 0xb2, 0x04, 0x3e, 0x68, 0x65, 0x6c, 0x6c, 0x6f, 0xbb, 0x1f, 0x1c, 0x19]

/-- E, the frame of the empty payload. -/
def emptyFrame : List Byte := [0, 0, 0, 0, 0, 0, 0, 0, 0x29, 0x03, 0x98, 0x07, 0xd8, 0xea, 0x82, 0xa2]

def hello : Input := { data := helloFrame, term := .endOfInput }

/-- After reset, with these moves to come. -/
def fresh (moves : List Move) : State := { State.reset with pending := moves }

/-- The host connected H, and an earlier run left a payload byte and a counter behind. -/
def connected : State :=
  { State.reset with inState := .ended, outcome := .endOfStream, connected := some hello, payloadOut := [0x61], recordsChecked := 7 }

/-- An idle open block on this source. -/
def opened (input : Input) (moves : List Move) : State :=
  { State.reset with inState := .opened, binding := .source input 0, pending := moves }

/-- A frame in progress: `pos` bytes of this source received, none before its frame; the source answers next. -/
def mid (op : FrameOp) (phase : Phase) (idx : BitVec 3) (pos : Nat) (length remaining : DWord) (input : Input) : State :=
  { State.reset with
    busy := true, inState := .opened, phase := phase, idx := idx, op := op, verify := op == .verify
    length := length, lbuf := length, remaining := remaining, streamOffset := BitVec.ofNat 64 pos
    binding := .source input pos, pending := [.answer] }

/-- The first n bytes of H, then the end. -/
def helloCut (n : Nat) : Input := { data := helloFrame.take n, term := .endOfInput }

/-- The last byte of H to come, the accumulators and fields as R157 to R160 leave them. -/
def lastByte (op : FrameOp) : State :=
  { mid op .pcrc 3 20 5 0 hello with
    lenAcc := 0x1BF6B23F, payAcc := 0x658E44B3, lcs := 0x3E04B2EA, lenCksumStored := 0x3E04B2EA, pcs := 0x001C1FBB }

/-! ### One step of each command -/

/-- V-O1. -/
theorem test_open_status : (after { connected with pending := [wrCmd .openInput] }).statusWord = 0x00000100 := by decide
/-- OPEN clears PAYLOAD_OUT and the counters (R150). -/
theorem test_open_clears :
    (after { connected with pending := [wrCmd .openInput] }).payloadOut = [] ∧
    (after { connected with pending := [wrCmd .openInput] }).recordsChecked = 0 := by decide
/-- V-I1 before its engine steps: BUSY, OPEN, PHASE LEN, VERIFY. -/
theorem test_next_status :
    (after (opened hello [wrCmd .nextFrame])).statusWord = 0x00001101 ∧
    (after (opened hello [wrCmd .nextFrame])).frameStatusWord = 0x00000008 := by decide
/-- V-E1. -/
theorem test_next_closed_rejected : (after (fresh [wrCmd .nextFrame])).statusWord = 0x00000012 := by decide
/-- SKIP leaves VERIFY 0 (42_fast_path.md R200). -/
theorem test_skip_status :
    (after (opened hello [wrCmd .skipFrame])).statusWord = 0x00001101 ∧
    (after (opened hello [wrCmd .skipFrame])).frameStatusWord = 0 := by decide
/-- V-O2. -/
theorem test_close_status :
    (after (opened hello [wrCmd .closeInput])).statusWord = 0x00000500 ∧
    (after (opened hello [wrCmd .closeInput])).releaseCount = 1 := by decide
/-- V-E6. -/
theorem test_close_busy_rejected :
    (after { mid .verify .len 0 0 0 0 hello with pending := [wrCmd .closeInput] }).statusWord = 0x0000110F := by decide
/-- V-K2. -/
theorem test_cks_init :
    (after { State.reset with cksAcc := 0, pending := [wrCmd .cksInit] }).cksResult = 0xA282EAD8 := by decide +kernel
/-- V-K3: the byte 0 counts as data. -/
theorem test_cks_byte_zero : (after (fresh [wrCmd (.cksByte 0x00)])).cksResult = 0x49258FD2 := by decide +kernel
/-- V-C4: "a". -/
theorem test_cks_byte_a : (after (fresh [wrCmd (.cksByte 0x61)])).cksResult = 0x28E46E78 := by decide +kernel

/-! ### One engine step -/

/-- V-F1, its last byte. -/
theorem test_last_byte_valid : (after (lastByte .verify)).frameStatusWord = 0x00000049 := by decide +kernel
/-- The same byte after SKIP (V-S1's FRAME_STATUS). -/
theorem test_last_byte_skip : (after (lastByte .skip)).frameStatusWord = 0x00000001 := by decide +kernel
/-- V-T5: STOP_PHASE PAY. -/
theorem test_truncated_in_pay : (after (mid .verify .pay 0 12 5 5 (helloCut 12))).frameStatusWord = 0x0000030B := by decide
/-- V-F3: the clean end of an empty input. -/
theorem test_clean_end : (after (mid .verify .len 0 0 0 0 (helloCut 0))).statusWord = 0x00008200 := by decide
/-- V-U1: an input that cannot be read. -/
theorem test_unreadable :
    (after (mid .verify .len 0 0 0 0 { data := [], term := .error })).frameStatusWord = 0x0000010C := by decide
/-- V-K1 and 10_state.md R50. -/
theorem test_reset_cks_result : State.reset.memRead 0x58 4 = 0xA282EAD8 := by decide +kernel

/-! ### The hypotheses of every statement are met -/

theorem test_witness_DecodeAndEncodeAgree :
    Instr.wellFormed (.cksByte 0xFF) = true ∧ decode 0x0000FF11 = .cmd (.cksByte 0xFF) ∧
    decode 0x00000011 = .cmd (.cksByte 0x00) := by decide

/-- Each range of reserved opcodes at its ends. -/
theorem test_witness_ReservedOpcodeIsRejected :
    (fresh [.write 0x00 4 0x05]).pending = .write 0x00 4 0x05 :: [] ∧
    ((0x00 : Word).extractLsb' 0 8).toNat = 0x00 ∧
    ((0x05 : Word).extractLsb' 0 8).toNat = 0x05 ∧ ((0x0F : Word).extractLsb' 0 8).toNat = 0x0F ∧
    ((0x12 : Word).extractLsb' 0 8).toNat = 0x12 ∧ ((0xFF : Word).extractLsb' 0 8).toNat = 0xFF := by decide

theorem test_witness_ReservedBitsAreRejected :
    (fresh [.write 0x00 4 0x80000011]).pending = .write 0x00 4 0x80000011 :: [] ∧
    (0x80000011 : Word).extractLsb' 0 8 ∈ [0x01#8, 0x02#8, 0x03#8, 0x04#8, 0x10#8, 0x11#8] ∧
    (0x80000011 : Word).extractLsb' 16 16 ≠ 0 := by decide

/-- The other clause: an IMM8 that OPEN does not use. -/
theorem test_witness_ReservedBitsAreRejected_imm8 :
    (fresh [.write 0x00 4 0x00000101]).pending = .write 0x00 4 0x00000101 :: [] ∧
    (0x00000101 : Word).extractLsb' 0 8 ∈ [0x01#8, 0x02#8, 0x03#8, 0x04#8, 0x10#8, 0x11#8] ∧
    (0x00000101 : Word).extractLsb' 0 8 ≠ 0x11 ∧ (0x00000101 : Word).extractLsb' 8 8 ≠ 0 := by decide

theorem test_witness_StepRunsDecodedCommand :
    (fresh [.write 0x00 4 0x01]).pending = .write 0x00 4 0x01 :: [] ∧ decode 0x01 = .cmd .openInput := by decide

theorem test_witness_OpenStartsFreshSummary :
    connected.busy = false ∧ connected.inState ≠ .opened ∧ connected.connected = some hello := by decide

/-- Without a source, and with one. -/
theorem test_witness_OpenWithoutSourceHoldsUnknownBinding :
    (State.reset.busy = false ∧ State.reset.inState ≠ .opened ∧ State.reset.connected = none) ∧
    (connected.busy = false ∧ connected.inState ≠ .opened ∧ connected.connected = some hello) := by decide

theorem test_witness_NextAndSkipBeginAFrame :
    (opened hello []).busy = false ∧ (opened hello []).inState = .opened := by decide

theorem test_witness_CloseAbandonsAndReleases :
    (opened hello []).busy = false ∧ (opened hello []).inState = .opened := by decide

theorem test_witness_ChecksumCommandsDriveTheAccumulator : State.reset.busy = false := by decide

theorem test_witness_RejectedCommandsChangeNothingElse :
    (lastByte .skip).busy = true ∧
    (State.reset.busy = false ∧ State.reset.inState ≠ .opened) ∧
    ((opened hello []).busy = false ∧ (opened hello []).inState = .opened) := by decide

/-- One word for each code, and one that meets no condition. -/
theorem test_witness_RejectionPriority :
    (after (fresh [.write 0x00 4 0x00010005])).errCode = some .rsvdOpcode ∧
    (after (opened hello [.write 0x00 4 0x00010001])).errCode = some .rsvdBits ∧
    (after { mid .verify .len 0 0 0 0 hello with pending := [.write 0x00 4 0x01] }).errCode = some .busy ∧
    (after (opened hello [.write 0x00 4 0x01])).errCode = some .badState ∧
    (after (opened hello [.write 0x00 4 0x02])).errCode = none := by decide

theorem test_witness_EveryRejectionIsObservable :
    (fresh [.write 0x00 4 0x02]).pending = .write 0x00 4 0x02 :: [] := by decide

theorem test_witness_BusyFrameCommandIsUndisturbed :
    (lastByte .skip).pending = .answer :: [] ∧ step (lastByte .skip) = .next (after (lastByte .skip)) ∧
    (lastByte .skip).busy = true := ⟨rfl, rfl, rfl⟩

theorem test_witness_BusyFrameCommandIsUndisturbed_write :
    { lastByte .skip with pending := [.write 0x00 4 0x10] }.pending = .write 0x00 4 0x10 :: [] ∧
    (lastByte .skip).busy = true ∧ decode 0x10 = .cmd .cksInit := by decide

/-- The first byte, the last byte, and the end. -/
theorem test_witness_SourceAnswersInOrder :
    (opened hello []).binding = .source hello 0 ∧ 0 < hello.data.length ∧
    (lastByte .skip).binding = .source hello 20 ∧ 20 < hello.data.length ∧
    (mid .skip .len 0 21 0 0 hello).binding = .source hello hello.data.length := by decide

theorem test_witness_StreamOffsetCountsBytes :
    (lastByte .skip).pending = .answer :: [] ∧ (lastByte .skip).busy = true ∧ (lastByte .skip).phase ≠ .idle ∧
    (lastByte .skip).binding = .source hello 20 ∧ 20 < hello.data.length ∧
    (mid .skip .len 0 21 0 0 hello).binding = .source hello 21 ∧ hello.data.length ≤ 21 := by decide

/-- The first and the 8th length byte. -/
theorem test_witness_LengthByteIsCollected :
    (mid .verify .len 0 0 0 0 hello).pending = .answer :: [] ∧ (mid .verify .len 0 0 0 0 hello).busy = true ∧
    (mid .verify .len 0 0 0 0 hello).phase = .len ∧ (mid .verify .len 0 0 0 0 hello).binding = .source hello 0 ∧
    hello.data[0]? = some 0x05 ∧
    (mid .verify .len 7 7 0 0 hello).idx = 7 ∧ (mid .verify .len 7 7 0 0 hello).binding = .source hello 7 ∧
    hello.data[7]? = some 0x00 := by decide

/-- The 4th length_checksum byte, and the 3rd payload_checksum byte. -/
theorem test_witness_ChecksumFieldBytesAreCollected :
    (mid .verify .lcrc 3 11 5 5 hello).pending = .answer :: [] ∧ (mid .verify .lcrc 3 11 5 5 hello).busy = true ∧
    (mid .verify .lcrc 3 11 5 5 hello).binding = .source hello 11 ∧ hello.data[11]? = some 0x3e ∧
    (mid .verify .lcrc 3 11 5 5 hello).phase = .lcrc ∧
    (mid .verify .pcrc 2 19 5 0 hello).pending = .answer :: [] ∧ (mid .verify .pcrc 2 19 5 0 hello).busy = true ∧
    (mid .verify .pcrc 2 19 5 0 hello).binding = .source hello 19 ∧ hello.data[19]? = some 0x1c ∧
    (mid .verify .pcrc 2 19 5 0 hello).phase = .pcrc ∧ (mid .verify .pcrc 2 19 5 0 hello).idx ≠ 3 := by decide

/-- The first and the last payload byte. -/
theorem test_witness_PayloadByteIsEmittedAndCounted :
    (mid .verify .pay 0 12 5 5 hello).pending = .answer :: [] ∧ (mid .verify .pay 0 12 5 5 hello).busy = true ∧
    (mid .verify .pay 0 12 5 5 hello).phase = .pay ∧ (mid .verify .pay 0 12 5 5 hello).binding = .source hello 12 ∧
    hello.data[12]? = some 0x68 ∧
    (mid .verify .pay 0 16 5 1 hello).binding = .source hello 16 ∧ hello.data[16]? = some 0x6f ∧
    (mid .verify .pay 0 16 5 1 hello).remaining - 1 = 0 := by decide

theorem test_witness_VerifiedFrameCompletes :
    (lastByte .verify).pending = .answer :: [] ∧ (lastByte .verify).busy = true ∧ (lastByte .verify).phase = .pcrc ∧
    (lastByte .verify).idx = 3 ∧ (lastByte .verify).op = .verify ∧ (lastByte .verify).binding = .source hello 20 ∧
    hello.data[20]? = some 0x19 := by decide

theorem test_witness_SkippedFrameCompletes :
    (lastByte .skip).pending = .answer :: [] ∧ (lastByte .skip).busy = true ∧ (lastByte .skip).phase = .pcrc ∧
    (lastByte .skip).idx = 3 ∧ (lastByte .skip).op = .skip ∧ (lastByte .skip).binding = .source hello 20 ∧
    hello.data[20]? = some 0x19 := by decide

/-- At a frame boundary, and one byte after it. -/
theorem test_witness_EndIsCleanOnlyAtAFrameBoundary :
    (mid .verify .len 0 0 0 0 (helloCut 0)).pending = .answer :: [] ∧ (mid .verify .len 0 0 0 0 (helloCut 0)).busy = true ∧
    (mid .verify .len 0 0 0 0 (helloCut 0)).binding = .source (helloCut 0) 0 ∧ (helloCut 0).data[0]? = none ∧
    (helloCut 0).term = .endOfInput ∧
    (mid .verify .len 0 0 0 0 (helloCut 0)).phase = .len ∧ (mid .verify .len 0 0 0 0 (helloCut 0)).idx = 0 ∧
    (mid .verify .len 1 1 0 0 (helloCut 1)).binding = .source (helloCut 1) 1 ∧ (helloCut 1).data[1]? = none ∧
    (mid .verify .len 1 1 0 0 (helloCut 1)).idx ≠ 0 := by decide

theorem test_witness_ErrorIsUnreadable :
    (mid .verify .len 0 0 0 0 { data := [], term := .error }).pending = .answer :: [] ∧
    (mid .verify .len 0 0 0 0 { data := [], term := .error }).busy = true ∧
    (mid .verify .len 0 0 0 0 { data := [], term := .error }).phase ≠ .idle ∧
    (mid .verify .len 0 0 0 0 { data := [], term := .error }).binding = .source { data := [], term := .error } 0 := by decide

theorem test_witness_EngineMovesOnlyWhenAnswered :
    (fresh [.answer]).pending = .answer :: [] ∧ (fresh [.answer]).busy = false ∧
    { mid .verify .len 0 0 0 0 hello with binding := .unconnected }.pending = .answer :: [] ∧
    { mid .verify .len 0 0 0 0 hello with binding := .unconnected }.busy = true ∧
    { mid .verify .len 0 0 0 0 hello with binding := .unconnected }.phase ≠ .idle ∧
    { mid .verify .len 0 0 0 0 hello with binding := .unconnected }.binding = .unconnected ∧
    State.reset.pending = [] := by decide

theorem test_witness_CollectedByteOccupiesItsLane :
    (63 < 64 ∧ 8 * (7 : BitVec 3).toNat ≤ 63) ∧ (31 < 32 ∧ (3 : BitVec 3) ≤ 3) := by decide

/-- A whole frame, and the shortest one. -/
theorem test_witness_NextReadsAndVerifiesOneFrame :
    (opened hello []).busy = false ∧ (opened hello []).inState = .opened ∧ (opened hello []).binding = .source hello 0 ∧
    parseFrame (hello.data.drop 0) = some { length := 5, lengthChecksum := 0x3E04B2EA, payload := [0x68, 0x65, 0x6c, 0x6c, 0x6f], payloadChecksum := 0x191C1FBB } ∧
    parseFrame emptyFrame = some { length := 0, lengthChecksum := 0x07980329, payload := [], payloadChecksum := 0xA282EAD8 } ∧
    (opened hello (wrCmd .nextFrame :: (answers 21 ++ []))).pending = wrCmd .nextFrame :: (answers (16 + (5 : DWord).toNat) ++ []) := by
  decide +kernel

theorem test_witness_SkipReadsOneFrameUnverified :
    (opened hello (wrCmd .skipFrame :: (answers 21 ++ []))).pending = wrCmd .skipFrame :: (answers (16 + (5 : DWord).toNat) ++ []) ∧
    (opened hello []).binding = .source hello 0 ∧ (parseFrame (hello.data.drop 0)).isSome = true := by decide +kernel

/-- No byte at all, one byte short of the shortest frame, and one byte short of H. -/
theorem test_witness_ShortInputEndsTheInput :
    (opened (helloCut 20) (wrCmd .nextFrame :: (answers 21 ++ []))).pending
      = wrCmd .nextFrame :: (answers (((helloCut 20).data.drop 0).length + 1) ++ []) ∧
    (opened (helloCut 20) []).binding = .source (helloCut 20) 0 ∧
    parseFrame ((helloCut 20).data.drop 0) = none ∧ parseFrame ((helloCut 0).data.drop 0) = none ∧
    parseFrame (emptyFrame.take 15) = none := by decide +kernel

theorem test_witness_SkipAndNextFrameAlike :
    (opened hello []).busy = false ∧ (opened hello []).inState = .opened := by decide

theorem test_witness_FrameCommandEnds :
    let s : State := { lastByte .verify with pending := answers (hello.data.length - 20 + 1) ++ [] }
    s.busy = true ∧ s.phase ≠ .idle ∧ s.binding = .source hello 20 ∧
    s.pending = answers (hello.data.length - 20 + 1) ++ [] := by decide

theorem test_witness_CommandsComputeMaskedChecksum :
    let s := fresh (wrCmd .cksInit :: ([0x61].map (fun b => wrCmd (.cksByte b)) ++ []))
    s.busy = false ∧ s.pending = wrCmd .cksInit :: ([0x61].map (fun b => wrCmd (.cksByte b)) ++ []) := by decide

/-- V-M2 to V-M4: bits 0, 15 and 31. -/
theorem test_witness_RotationMovesBits :
    (0 < 32 ∧ 31 < 32) ∧ mask 0x00000001 = 0xA284EAD8 ∧ mask 0x00008000 = 0xA282EAD9 ∧
    mask 0x80000000 = 0xA283EAD8 := by decide +kernel

theorem test_witness_SingleByteChangeIsDetected : (0x68 : Byte) ≠ 0x69 := by decide

/-- Both ends of the reserved offsets. -/
theorem test_witness_WindowReadsTheRegisterMap :
    (lastByte .verify).memRead 0x0C 4 = 0 ∧ (lastByte .verify).memRead 0x5C 4 = 0 ∧
    (lastByte .verify).memRead 0xFC 4 = 0 ∧ (0x5C ≤ 0xFC ∧ 0xFC ≤ 0xFC) := by decide

theorem test_witness_MisalignedAccessHasNoEffect :
    (0xFF < 0x100 ∧ 0xFF % 4 ≠ 0) ∧ (0x00 < 0x100 ∧ (2 : Nat) ≠ 4) ∧
    (fresh [.write 0x00 2 1]).pending = .write 0x00 2 1 :: [] ∧
    (fresh [.read 0xFF 4]).pending = .read 0xFF 4 :: [] := by decide

theorem test_witness_OnlyCommandWritesHaveEffect :
    (fresh [.read 0xFC 4]).pending = .read 0xFC 4 :: [] ∧ 0xFC < 0x100 ∧
    (fresh [.write 0x04 4 1]).pending = .write 0x04 4 1 :: [] ∧ ¬ (0x04 = 0x00 ∧ 4 = 4) := by decide

theorem test_witness_RegisterBytesAreLittleEndian : 0x58 % 4 = 0 ∧ 3 < 4 ∧ 7 < 8 := by decide

theorem test_witness_UndecodedAccessAndRebindAreRefused :
    (fresh [.read 0x100 4]).pending = .read 0x100 4 :: [] ∧ (fresh [.write 0x100 4 1]).pending = .write 0x100 4 1 :: [] ∧
    0x100 ≤ 0x100 ∧
    (opened hello [.bind hello]).pending = .bind hello :: [] ∧ (opened hello [.bind hello]).inState = .opened ∧
    { connected with pending := [.bind (helloCut 1)] }.pending = .bind (helloCut 1) :: [] ∧
    { connected with pending := [.bind (helloCut 1)] }.inState ≠ .opened ∧ connected.connected = some hello := by decide

theorem test_witness_ResetRestoresEveryElement :
    { lastByte .skip with pending := [.reset] }.pending = .reset :: [] ∧
    step { lastByte .skip with pending := [.reset] } = .next (after { lastByte .skip with pending := [.reset] }) ∧
    (after { lastByte .skip with pending := [.reset] }).inState = .closed := ⟨rfl, rfl, rfl⟩

theorem test_witness_ResetAbandonsTheCommand :
    { lastByte .skip with pending := [.reset] }.pending = .reset :: [] ∧
    step { lastByte .skip with pending := [.reset] } = .next (after { lastByte .skip with pending := [.reset] }) :=
  ⟨rfl, rfl⟩

theorem test_witness_CountersAndOffsetsStayOrdered :
    (connected.badLenCount ≤ connected.recordsChecked ∧ connected.badPayCount ≤ connected.recordsChecked ∧
      connected.recordsChecked ≠ 0xFFFFFFFFFFFFFFFF ∧ connected.frameStart ≤ connected.streamOffset ∧
      connected.streamOffset ≠ 0xFFFFFFFFFFFFFFFF) ∧
    step connected = .next (after connected) := ⟨by decide, rfl⟩

/-- How far the frame of `mid` has been read, as the invariant says it. -/
abbrev received (phase : Phase) (idx : BitVec 3) (pos : Nat) (length remaining : DWord) : Prop :=
  match phase with
  | .idle => True
  | .len => BitVec.ofNat 64 pos - 0 = idx.setWidth 64
  | .lcrc => BitVec.ofNat 64 pos - 0 = 8 + idx.setWidth 64
  | .pay => BitVec.ofNat 64 pos - 0 = 12 + (length - remaining)
  | .pcrc => BitVec.ofNat 64 pos - 0 = 12 + length + idx.setWidth 64

/-- The range of st.idx, as the invariant says it. -/
abbrev idxInRange (phase : Phase) (idx : BitVec 3) : Prop :=
  match phase with
  | .len => True
  | .lcrc => idx ≤ 3
  | .pcrc => idx ≤ 3
  | .pay => idx = 0
  | .idle => idx = 0

/-- The invariant of a state of the kind `mid`. -/
theorem mid_inv (op : FrameOp) (phase : Phase) (idx : BitVec 3) (pos : Nat) (length remaining : DWord) (input : Input)
    (hb : pos ≤ input.data.length)
    (hi : idxInRange phase idx)
    (hr : received phase idx pos length remaining)
    (hl : phase = .len → length = 0) (hc : phase = .lcrc → remaining = length)
    (hy : phase = .pay → 0 < remaining ∧ remaining ≤ length) (hp : phase ≠ .idle) :
    (mid op phase idx pos length remaining input).Inv := by
  refine ⟨⟨?_, ?_, ?_, ?_, ?_, ?_, ?_, ?_, ?_, ?_, ?_, hi⟩, ⟨?_, ?_⟩, ⟨hb, rfl⟩, ⟨hr, hl, ?_, ?_, hc, hy⟩⟩ <;>
    simp [mid, State.reset, hp]

/-- The invariant of an open idle block. -/
theorem opened_inv (input : Input) (moves : List Move) : (opened input moves).Inv := by
  refine ⟨⟨?_, ?_, ?_, ?_, ?_, ?_, ?_, ?_, ?_, ?_, ?_, ?_⟩, ⟨?_, ?_⟩, ?_, ⟨?_, ?_, ?_, ?_, ?_, ?_⟩⟩ <;>
    simp [opened, State.reset, State.OffsetInv]

/-- STREAM_OFFSET's clause, at the end of the source. -/
theorem test_witness_StreamOffsetCountsBytes_inv :
    (mid .verify .pcrc 3 20 5 0 (helloCut 20)).Inv ∧
    (mid .verify .pcrc 3 20 5 0 (helloCut 20)).binding = .source (helloCut 20) 20 :=
  ⟨mid_inv _ _ _ _ _ _ _ (by decide) (by decide) (by decide) (by decide) (by decide) (by decide) (by decide), rfl⟩

theorem test_witness_PayloadByteIsEmittedAndCounted_inv :
    (mid .verify .pay 0 16 5 1 hello).Inv ∧ (mid .verify .pay 0 16 5 1 hello).phase = .pay :=
  ⟨mid_inv _ _ _ _ _ _ _ (by decide) (by decide) (by decide) (by decide) (by decide) (by decide) (by decide), rfl⟩

theorem test_witness_EndIsCleanOnlyAtAFrameBoundary_inv : (mid .verify .len 1 1 0 0 (helloCut 1)).Inv :=
  mid_inv _ _ _ _ _ _ _ (by decide) (by decide) (by decide) (by decide) (by decide) (by decide) (by decide)

theorem test_witness_StepKeepsInvariant :
    (mid .verify .len 0 0 0 0 hello).Inv ∧
    step (mid .verify .len 0 0 0 0 hello) = .next (after (mid .verify .len 0 0 0 0 hello)) :=
  ⟨mid_inv _ _ _ _ _ _ _ (by decide) (by decide) (by decide) (by decide) (by decide) (by decide) (by decide), rfl⟩

theorem test_witness_InvariantExcludesFaults : (mid .verify .len 0 0 0 0 hello).Inv :=
  mid_inv _ _ _ _ _ _ _ (by decide) (by decide) (by decide) (by decide) (by decide) (by decide) (by decide)

/-- STOP_PHASE LEN, after 1 byte and after 7. -/
theorem test_witness_TruncationPositionFollowsFromStopPhase_len :
    ((mid .verify .len 1 1 0 0 (helloCut 1)).Inv ∧
      step (mid .verify .len 1 1 0 0 (helloCut 1)) = .next (after (mid .verify .len 1 1 0 0 (helloCut 1))) ∧
      (after (mid .verify .len 1 1 0 0 (helloCut 1))).stopPhase = .len) ∧
    ((mid .verify .len 7 7 0 0 (helloCut 7)).Inv ∧
      step (mid .verify .len 7 7 0 0 (helloCut 7)) = .next (after (mid .verify .len 7 7 0 0 (helloCut 7))) ∧
      (after (mid .verify .len 7 7 0 0 (helloCut 7))).stopPhase = .len) :=
  ⟨⟨mid_inv _ _ _ _ _ _ _ (by decide) (by decide) (by decide) (by decide) (by decide) (by decide) (by decide), rfl, rfl⟩,
   ⟨mid_inv _ _ _ _ _ _ _ (by decide) (by decide) (by decide) (by decide) (by decide) (by decide) (by decide), rfl, rfl⟩⟩

/-- STOP_PHASE LCRC, after 11 bytes. -/
theorem test_witness_TruncationPositionFollowsFromStopPhase_lcrc :
    (mid .verify .lcrc 3 11 5 5 (helloCut 11)).Inv ∧
    step (mid .verify .lcrc 3 11 5 5 (helloCut 11)) = .next (after (mid .verify .lcrc 3 11 5 5 (helloCut 11))) ∧
    (after (mid .verify .lcrc 3 11 5 5 (helloCut 11))).outcome = .truncated ∧
    (after (mid .verify .lcrc 3 11 5 5 (helloCut 11))).stopPhase = .lcrc :=
  ⟨mid_inv _ _ _ _ _ _ _ (by decide) (by decide) (by decide) (by decide) (by decide) (by decide) (by decide), rfl, rfl, rfl⟩

/-- STOP_PHASE PAY, after 11 + L bytes. -/
theorem test_witness_TruncationPositionFollowsFromStopPhase_pay :
    (mid .verify .pay 0 16 5 1 (helloCut 16)).Inv ∧
    step (mid .verify .pay 0 16 5 1 (helloCut 16)) = .next (after (mid .verify .pay 0 16 5 1 (helloCut 16))) ∧
    (after (mid .verify .pay 0 16 5 1 (helloCut 16))).outcome = .truncated ∧
    (after (mid .verify .pay 0 16 5 1 (helloCut 16))).stopPhase = .pay :=
  ⟨mid_inv _ _ _ _ _ _ _ (by decide) (by decide) (by decide) (by decide) (by decide) (by decide) (by decide), rfl, rfl, rfl⟩

/-- STOP_PHASE PCRC, after 15 + L bytes; the length leaves room below 2^64. -/
theorem test_witness_TruncationPositionFollowsFromStopPhase_pcrc :
    (mid .verify .pcrc 3 20 5 0 (helloCut 20)).Inv ∧
    step (mid .verify .pcrc 3 20 5 0 (helloCut 20)) = .next (after (mid .verify .pcrc 3 20 5 0 (helloCut 20))) ∧
    (after (mid .verify .pcrc 3 20 5 0 (helloCut 20))).outcome = .truncated ∧
    (after (mid .verify .pcrc 3 20 5 0 (helloCut 20))).stopPhase = .pcrc ∧
    (after (mid .verify .pcrc 3 20 5 0 (helloCut 20))).length.toNat + 16 < 2 ^ 64 :=
  ⟨mid_inv _ _ _ _ _ _ _ (by decide) (by decide) (by decide) (by decide) (by decide) (by decide) (by decide),
    rfl, rfl, rfl, by decide⟩

/-- A step that releases, and a reset, which does not. -/
theorem test_witness_ReleaseExactlyOnLeavingOpen :
    ((opened hello [wrCmd .closeInput]).Inv ∧
      step (opened hello [wrCmd .closeInput]) = .next (after (opened hello [wrCmd .closeInput]))) ∧
    ((opened hello [.reset]).Inv ∧ step (opened hello [.reset]) = .next (after (opened hello [.reset]))) :=
  ⟨⟨opened_inv _ _, rfl⟩, ⟨opened_inv _ _, rfl⟩⟩

/-- BUSY set by NEXT, kept and cleared by an answer. -/
theorem test_witness_BusyChangesOnlyAsStated :
    ((opened hello []).busy = false ∧ (opened hello []).inState = .opened) ∧
    (mid .verify .len 0 0 0 0 (helloCut 0)).Inv ∧ (mid .verify .len 0 0 0 0 (helloCut 0)).pending = .answer :: [] ∧
    step (mid .verify .len 0 0 0 0 (helloCut 0)) = .next (after (mid .verify .len 0 0 0 0 (helloCut 0))) ∧
    (after (mid .verify .len 0 0 0 0 (helloCut 0))).busy ≠ (mid .verify .len 0 0 0 0 (helloCut 0)).busy :=
  ⟨⟨rfl, rfl⟩,
    mid_inv _ _ _ _ _ _ _ (by decide) (by decide) (by decide) (by decide) (by decide) (by decide) (by decide),
    rfl, rfl, by decide⟩

theorem test_witness_InputStateTransitions :
    (opened hello [wrCmd .closeInput]).Inv ∧
    step (opened hello [wrCmd .closeInput]) = .next (after (opened hello [wrCmd .closeInput])) ∧
    (after (opened hello [wrCmd .closeInput])).inState ≠ (opened hello [wrCmd .closeInput]).inState :=
  ⟨opened_inv _ _, rfl, by decide⟩

theorem test_witness_OnlyChecksumCommandsChangeTheAccumulator :
    step { State.reset with cksAcc := 0, pending := [wrCmd .cksInit] }
      = .next (after { State.reset with cksAcc := 0, pending := [wrCmd .cksInit] }) ∧
    (after { State.reset with cksAcc := 0, pending := [wrCmd .cksInit] }).cksAcc ≠ 0 := ⟨rfl, by decide⟩

/-- A payload byte, an OPEN, and a change of PAYLOAD_OUT. -/
theorem test_witness_OnlyPayloadBytesAreEmitted :
    ((mid .skip .pay 0 12 5 5 hello).pending = .answer :: [] ∧ (mid .skip .pay 0 12 5 5 hello).busy = true ∧
      step (mid .skip .pay 0 12 5 5 hello) = .next (after (mid .skip .pay 0 12 5 5 hello)) ∧
      (after (mid .skip .pay 0 12 5 5 hello)).payloadOut = [0x68]) ∧
    (connected.busy = false ∧ connected.inState ≠ .opened) :=
  ⟨⟨rfl, rfl, rfl, rfl⟩, by decide⟩

theorem test_witness_BusyRegistersAreIntermediate :
    ((mid .verify .len 7 7 0 0 hello).Inv ∧ (mid .verify .len 7 7 0 0 hello).busy = true ∧
      (mid .verify .len 7 7 0 0 hello).phase = .len) ∧
    ((mid .skip .lcrc 3 11 5 5 hello).Inv ∧ (mid .skip .lcrc 3 11 5 5 hello).phase = .lcrc) :=
  ⟨⟨mid_inv _ _ _ _ _ _ _ (by decide) (by decide) (by decide) (by decide) (by decide) (by decide) (by decide), rfl, rfl⟩,
   ⟨mid_inv _ _ _ _ _ _ _ (by decide) (by decide) (by decide) (by decide) (by decide) (by decide) (by decide), rfl⟩⟩

theorem test_witness_IdleRegistersAreStable :
    (fresh [.read 0x58 4]).busy = false ∧ step (fresh [.read 0x58 4]) = .next (after (fresh [.read 0x58 4])) ∧
    (∀ w rest, (fresh [.read 0x58 4]).pending ≠ .write 0x00 4 w :: rest) ∧
    (∀ rest, (fresh [.read 0x58 4]).pending ≠ .reset :: rest) :=
  ⟨rfl, rfl, by simp [fresh], by simp [fresh]⟩

theorem test_witness_InstancesShareNothing :
    System.stepBlock 1 { blocks := [State.reset, fresh [wrCmd .cksInit]] }
      = .next { blocks := [State.reset, after (fresh [wrCmd .cksInit])] } ∧
    (System.mk [State.reset, fresh [wrCmd .cksInit]]).blocks[1]? = some (fresh [wrCmd .cksInit]) ∧ 0 ≠ 1 :=
  ⟨rfl, rfl, by decide⟩

end Sys2Proof.Tests
end

section
/-! PROOFS. Effects: what a command, an engine step and a step of the machine can do, one inversion lemma each, with the rest of
the state said once (60_exceptions.md R226; 41_frame_reader.md R154; 20_memory.md R75). -/

namespace Sys2Proof.Machine

/-- A step that moves neither the input nor the engine: t differs from s at most in the error field, the port's connection and the
model's own records, and the error field is kept or set as a rejection sets it. -/
structure State.Untouched (s t : State) : Prop where
  eq : t = { s with
    cmdErr := t.cmdErr, errCode := t.errCode, connected := t.connected
    history := t.history, freeReads := t.freeReads, pending := t.pending }
  err : (t.cmdErr = s.cmdErr ∧ t.errCode = s.errCode) ∨ ∃ c, t.cmdErr = true ∧ t.errCode = some c

namespace State.Untouched

variable {s t : State}

theorem busy (h : s.Untouched t) : t.busy = s.busy := by rw [h.eq]
theorem inState (h : s.Untouched t) : t.inState = s.inState := by rw [h.eq]
theorem recordsChecked (h : s.Untouched t) : t.recordsChecked = s.recordsChecked := by rw [h.eq]
theorem badLenCount (h : s.Untouched t) : t.badLenCount = s.badLenCount := by rw [h.eq]
theorem badPayCount (h : s.Untouched t) : t.badPayCount = s.badPayCount := by rw [h.eq]
theorem streamOffset (h : s.Untouched t) : t.streamOffset = s.streamOffset := by rw [h.eq]
theorem frameStart (h : s.Untouched t) : t.frameStart = s.frameStart := by rw [h.eq]
theorem cksAcc (h : s.Untouched t) : t.cksAcc = s.cksAcc := by rw [h.eq]

/-- Taking the move that comes next touches nothing. -/
theorem of_pending {rest : List Move} (h : State.Untouched { s with pending := rest } t) : s.Untouched t :=
  ⟨h.eq, h.err⟩

end State.Untouched

theorem State.untouched_of_sameError (s : State) (connected : Option Input) (history : List Event) (freeReads : Nat)
    (pending : List Move) :
    s.Untouched { s with connected := connected, history := history, freeReads := freeReads, pending := pending } :=
  ⟨rfl, .inl ⟨rfl, rfl⟩⟩

theorem State.untouched_raiseCmdError (s : State) (c : Rejection) : s.Untouched (s.raiseCmdError c) :=
  ⟨rfl, .inr ⟨c, rfl, rfl⟩⟩

/-- The IN_STATE each command asks for (60_exceptions.md R226). -/
def legalIn : Instr → InState → Prop
  | .openInput, i => i ≠ .opened
  | .nextFrame, i => i = .opened
  | .skipFrame, i => i = .opened
  | .closeInput, i => i = .opened
  | .cksInit, _ => True
  | .cksByte _, _ => True

/-- The effect of each command once it is accepted. -/
def State.perform (s : State) : Instr → State
  | .openInput => s.performOpen
  | .nextFrame => s.frameBegin .verify
  | .skipFrame => s.frameBegin .skip
  | .closeInput => s.performClose
  | .cksInit => s.performCksInit
  | .cksByte b => s.performCksByte b

/-- An idle block performs every command that is legal in its IN_STATE. -/
theorem exec_of_legal (i : Instr) (s : State) (hb : s.busy = false) (hl : legalIn i s.inState) :
    exec i s = .next (s.perform i) := by
  cases i <;> simp only [legalIn] at hl <;>
    simp [State.perform, exec, execOpen, execNext, execSkip, execClose, execCksInit, execCksByte, State.accept, hb, hl]

/-- A command is rejected and touches nothing, or it is legal in an idle block and has its effect. -/
theorem exec_effect (i : Instr) (s t : State) (h : exec i s = .next t) :
    s.Untouched t ∨ (s.busy = false ∧ legalIn i s.inState ∧ t = s.perform i) := by
  rcases exec_cases i s t h with ⟨_, rfl⟩ | ⟨_, rfl, _⟩ | ⟨hb, rfl, ho, rfl⟩ | ⟨hb, rfl, ho, rfl⟩ | ⟨hb, rfl, ho, rfl⟩ |
    ⟨hb, rfl, ho, rfl⟩ | ⟨hb, rfl, rfl⟩ | ⟨b, hb, rfl, rfl⟩
  · exact .inl (s.untouched_raiseCmdError _)
  · exact .inl (s.untouched_raiseCmdError _)
  · exact .inr ⟨hb, ho, rfl⟩
  · exact .inr ⟨hb, ho, rfl⟩
  · exact .inr ⟨hb, ho, rfl⟩
  · exact .inr ⟨hb, ho, rfl⟩
  · exact .inr ⟨hb, trivial, rfl⟩
  · exact .inr ⟨hb, trivial, rfl⟩

/-- A transfer that nothing answers touches nothing. -/
theorem State.untouched_inRead (s : State) (h : s.inRead.1 = none) : s.Untouched s.inRead.2 := by
  rcases s.inRead_cases with ⟨_, hr⟩ | ⟨_, hr⟩ | ⟨_, _, _, _, _, hr⟩ | ⟨_, _, _, _, hr⟩ <;> rw [hr] at h ⊢
  · exact s.untouched_of_sameError _ _ _ _
  · exact s.untouched_of_sameError _ _ _ _
  · cases h
  · cases h

/-- The engine moves only in a busy block, outside phase IDLE, on an answer. -/
theorem engineStep_effect (s t : State) (h : engineStep s = .next t) :
    s.Untouched t ∨
    (∃ a, s.busy = true ∧ s.phase ≠ .idle ∧ s.inRead.1 = some a ∧ t = s.inRead.2.onAnswer a) := by
  rcases engineStep_cases s with ⟨_, he⟩ | ⟨_, _, he⟩ | ⟨_, _, hn, he⟩ | ⟨a, hb, hp, ha, he⟩ <;> rw [he] at h <;> cases h
  · exact .inl (s.untouched_of_sameError _ _ _ _)
  · exact .inl (s.untouched_inRead hn)
  · exact .inr ⟨a, hb, hp, ha, rfl⟩

/-- What a step can do: touch nothing, perform an accepted command, reset the block, or move the engine by one answer. -/
theorem step_effect (s t : State) (h : step s = .next t) :
    s.Untouched t ∨
    (∃ w rest i, s.pending = .write 0 4 w :: rest ∧ decode w = .cmd i ∧ s.busy = false ∧ legalIn i s.inState ∧
      t = State.perform { s with pending := rest } i) ∨
    (∃ rest, s.pending = .reset :: rest ∧ t = State.assertReset { s with pending := rest }) ∨
    (∃ rest a, s.pending = .answer :: rest ∧ s.busy = true ∧ s.phase ≠ .idle ∧
      (State.inRead { s with pending := rest }).1 = some a ∧
      t = (State.inRead { s with pending := rest }).2.onAnswer a) := by
  rcases step_cases s t h with ⟨_, rfl⟩ | ⟨w, rest, i, hp, hd, he⟩ | ⟨w, rest, c, _, _, rfl⟩ |
    ⟨off, width, v, rest, _, _, _, rfl⟩ | ⟨off, width, rest, _, _, rfl⟩ | ⟨input, rest, _, _, rfl⟩ | ⟨rest, hp, rfl⟩ |
    ⟨rest, hp, he⟩
  · exact .inl (t.untouched_of_sameError _ _ _ _)
  · rcases exec_effect i _ t he with hu | ⟨hb, hl, rfl⟩
    · exact .inl hu.of_pending
    · exact .inr (.inl ⟨w, rest, i, hp, hd, hb, hl, rfl⟩)
  · exact .inl (State.untouched_raiseCmdError _ c).of_pending
  · exact .inl (s.untouched_of_sameError _ _ _ _)
  · exact .inl (s.untouched_of_sameError _ _ _ _)
  · exact .inl (s.untouched_of_sameError _ _ _ _)
  · exact .inr (.inr (.inl ⟨rest, hp, rfl⟩))
  · rcases engineStep_effect _ t he with hu | ⟨a, hb, hph, ha, rfl⟩
    · exact .inl hu.of_pending
    · exact .inr (.inr (.inr ⟨rest, a, hp, hb, hph, ha, rfl⟩))

end Sys2Proof.Machine
end

section
/-! PROOFS. The frame of an answer: what every byte short of a frame's last leaves as it was, and what the ends of a frame command
leave (41_frame_reader.md R156 to R168). -/

namespace Sys2Proof.Machine

/-- t goes on with the frame command of s: everything is as it was but the byte collected and how far the frame has been read. -/
structure State.StillReading (s t : State) : Prop where
  busy : t.busy = s.busy
  cmdErr : t.cmdErr = s.cmdErr
  errCode : t.errCode = s.errCode
  inState : t.inState = s.inState
  outcome : t.outcome = s.outcome
  verify : t.verify = s.verify
  badLen : t.badLen = s.badLen
  badPay : t.badPay = s.badPay
  stopPhase : t.stopPhase = s.stopPhase
  lenCksumCalc : t.lenCksumCalc = s.lenCksumCalc
  payCksumStored : t.payCksumStored = s.payCksumStored
  payCksumCalc : t.payCksumCalc = s.payCksumCalc
  recordsChecked : t.recordsChecked = s.recordsChecked
  badLenCount : t.badLenCount = s.badLenCount
  badPayCount : t.badPayCount = s.badPayCount
  recordsSkipped : t.recordsSkipped = s.recordsSkipped
  streamOffset : t.streamOffset = s.streamOffset
  frameStart : t.frameStart = s.frameStart
  op : t.op = s.op
  cksAcc : t.cksAcc = s.cksAcc
  binding : t.binding = s.binding
  connected : t.connected = s.connected
  freeReads : t.freeReads = s.freeReads
  pending : t.pending = s.pending

theorem State.stillReading_refl (s : State) : s.StillReading s := by
  constructor <;> rfl

theorem State.stillReading_lenByte (s : State) (b : Byte) : s.StillReading (s.lenByte b) := by
  by_cases h : s.idx = 7
  · rw [s.lenByte_last b h]; constructor <;> rfl
  · rw [s.lenByte_of_ne b h]; constructor <;> rfl

theorem State.stillReading_lcrcByte (s : State) (b : Byte) : s.StillReading (s.lcrcByte b) := by
  by_cases h : s.idx = 3
  · rw [s.lcrcByte_last b h]; constructor <;> rfl
  · rw [s.lcrcByte_of_ne b h]; constructor <;> rfl

theorem State.stillReading_payByte (s : State) (b : Byte) : s.StillReading (s.payByte b) := by
  by_cases h : s.remaining - 1 = 0
  · rw [s.payByte_last b h]; constructor <;> rfl
  · rw [s.payByte_of_ne b h]; constructor <;> rfl

theorem State.stillReading_pcrcByte (s : State) (b : Byte) (h : s.idx ≠ 3) : s.StillReading (s.pcrcByte b) := by
  rw [s.pcrcByte_of_ne b h]; constructor <;> rfl

/-- The state in which the frame whose 4th payload_checksum byte is b completes (R156, R160). -/
def State.lastByteTaken (s : State) (b : Byte) : State :=
  { s with
    streamOffset := s.streamOffset + 1
    pcs := placeByte s.pcs s.idx.toNat b
    payCksumStored := placeByte s.pcs s.idx.toNat b }

/-- A byte is the last of its frame, or the command goes on with the next byte. -/
theorem State.onByte_effect (s : State) (b : Byte) :
    State.StillReading { s with streamOffset := s.streamOffset + 1 } (s.onByte b) ∨
    (s.phase = .pcrc ∧ s.idx = 3 ∧ s.onByte b = (s.lastByteTaken b).completeFrame) := by
  rcases s.onByte_cases b with ⟨_, h⟩ | ⟨_, h⟩ | ⟨_, h⟩ | ⟨_, h⟩ | ⟨hp, h⟩ <;> rw [h]
  · exact .inl (State.stillReading_refl _)
  · exact .inl (State.stillReading_lenByte _ b)
  · exact .inl (State.stillReading_lcrcByte _ b)
  · exact .inl (State.stillReading_payByte _ b)
  · by_cases hi : s.idx = 3
    · exact .inr ⟨hp, hi, State.pcrcByte_last _ b hi⟩
    · exact .inl (State.stillReading_pcrcByte _ b hi)

/-- What one answer does: the command goes on, or it ends with a completed frame, a clean end, a truncation or an I/O error. -/
theorem State.onAnswer_effect (s : State) (a : Answer) :
    State.StillReading { s with streamOffset := s.streamOffset + 1 } (s.onAnswer a) ∨
    (∃ b, s.onAnswer a = (s.lastByteTaken b).completeFrame) ∨
    s.onAnswer a = s.cleanEnd ∨ s.onAnswer a = s.stopTruncated ∨ s.onAnswer a = s.stopUnreadable := by
  cases a with
  | byte b =>
    rcases s.onByte_effect b with h | ⟨_, _, h⟩
    · exact .inl h
    · exact .inr (.inl ⟨b, h⟩)
  | endOfInput =>
    rcases s.onEnd_cases with ⟨_, _, h⟩ | ⟨_, h⟩
    · exact .inr (.inr (.inl h))
    · exact .inr (.inr (.inr (.inl h)))
  | error => exact .inr (.inr (.inr (.inr rfl)))

section
variable (s : State)

@[simp] theorem State.completeFrame_busy : s.completeFrame.busy = false := rfl
@[simp] theorem State.completeFrame_phase : s.completeFrame.phase = .idle := rfl
@[simp] theorem State.completeFrame_idx : s.completeFrame.idx = 0 := rfl
@[simp] theorem State.completeFrame_outcome : s.completeFrame.outcome = .frame := rfl
@[simp] theorem State.completeFrame_cmdErr : s.completeFrame.cmdErr = s.cmdErr := by
  unfold State.completeFrame; cases s.op <;> rfl
@[simp] theorem State.completeFrame_errCode : s.completeFrame.errCode = s.errCode := by
  unfold State.completeFrame; cases s.op <;> rfl
@[simp] theorem State.completeFrame_inState : s.completeFrame.inState = s.inState := by
  unfold State.completeFrame; cases s.op <;> rfl
@[simp] theorem State.completeFrame_keepsVerify : s.completeFrame.verify = s.verify := by
  unfold State.completeFrame; cases s.op <;> rfl
@[simp] theorem State.completeFrame_stopPhase : s.completeFrame.stopPhase = s.stopPhase := by
  unfold State.completeFrame; cases s.op <;> rfl
@[simp] theorem State.completeFrame_streamOffset : s.completeFrame.streamOffset = s.streamOffset := by
  unfold State.completeFrame; cases s.op <;> rfl
@[simp] theorem State.completeFrame_frameStart : s.completeFrame.frameStart = s.frameStart := by
  unfold State.completeFrame; cases s.op <;> rfl
@[simp] theorem State.completeFrame_cksAcc : s.completeFrame.cksAcc = s.cksAcc := by
  unfold State.completeFrame; cases s.op <;> rfl
@[simp] theorem State.completeFrame_binding : s.completeFrame.binding = s.binding := by
  unfold State.completeFrame; cases s.op <;> rfl

/-- A frame that SKIP began completes without a verdict on its checksums. -/
theorem State.completeFrame_skip_bad (h : s.op = .skip) :
    s.completeFrame.badLen = s.badLen ∧ s.completeFrame.badPay = s.badPay := by
  rw [s.completeFrame_skip h]; exact ⟨rfl, rfl⟩

end

end Sys2Proof.Machine
end

section
/-! PROOFS. The invariant: the updates it does not see, its clauses by phase, and that every effect of a step keeps it
(10_state.md R24 to R35, R48, R51; 41_frame_reader.md R154, R164). -/

namespace Sys2Proof.Machine

/-! ### The clauses by phase -/

namespace State.ControlInv

variable {s : State}

theorem idx_le_of_lcrc (h : s.ControlInv) (hp : s.phase = .lcrc) : s.idx ≤ 3 := by
  simpa only [hp] using h.idx_range

theorem idx_le_of_pcrc (h : s.ControlInv) (hp : s.phase = .pcrc) : s.idx ≤ 3 := by
  simpa only [hp] using h.idx_range

theorem idx_zero_of_idle (h : s.ControlInv) (hp : s.phase = .idle) : s.idx = 0 := by
  simpa only [hp] using h.idx_range

theorem idx_zero_of_pay (h : s.ControlInv) (hp : s.phase = .pay) : s.idx = 0 := by
  simpa only [hp] using h.idx_range

/-- While a frame command is in progress no verdict stands, and no stop. -/
theorem frameStatus_of_busy (h : s.ControlInv) (hb : s.busy = true) :
    s.badLen = false ∧ s.badPay = false ∧ s.stopPhase = .idle := by
  have ho := h.busy_none hb
  have hbad := h.bad_frame
  have hstop := h.stop_iff
  simp_all

/-- The control clauses see of the binding only whether it is held, of the error field only that CMD_ERR and ERR_CODE agree, and
nothing of the standalone accumulator, the port's connection, STREAM_OFFSET, the payload_checksum field and the model's own
records. -/
theorem frame {binding : Binding} {cmdErr : Bool} {errCode : Option Rejection} {cksAcc pcs payCksumStored : Word}
    {connected : Option Input} {streamOffset : DWord} {history : List Event} {freeReads : Nat} {pending : List Move}
    (h : s.ControlInv) (hb : binding ≠ .notHeld ↔ s.binding ≠ .notHeld) (he : cmdErr = errCode.isSome) :
    State.ControlInv { s with
      binding := binding, cmdErr := cmdErr, errCode := errCode, cksAcc := cksAcc, pcs := pcs, payCksumStored := payCksumStored
      connected := connected, streamOffset := streamOffset, history := history, freeReads := freeReads
      pending := pending } where
  busy_open := h.busy_open
  idle_iff := h.idle_iff
  held_iff := hb.trans h.held_iff
  err_iff := he
  busy_none := h.busy_none
  ended_iff := h.ended_iff
  truncated_iff := h.truncated_iff
  unreadable_iff := h.unreadable_iff
  busy_verify := h.busy_verify
  bad_frame := h.bad_frame
  stop_iff := h.stop_iff
  idx_range := h.idx_range

/-- A command that goes on keeps the control clauses when its phase and st.idx stay in range. -/
theorem of_stillReading {t : State} (h : s.ControlInv) (hb : s.busy = true) (k : s.StillReading t) (hp : t.phase ≠ .idle)
    (hfour : t.phase = .lcrc ∨ t.phase = .pcrc → t.idx ≤ 3) (hpay : t.phase = .pay → t.idx = 0) : t.ControlInv where
  busy_open := by rw [k.busy, k.inState]; exact h.busy_open
  idle_iff := by rw [k.busy]; simp [hp, hb]
  held_iff := by rw [k.binding, k.inState]; exact h.held_iff
  err_iff := by rw [k.cmdErr, k.errCode]; exact h.err_iff
  busy_none := by rw [k.busy, k.outcome]; exact h.busy_none
  ended_iff := by rw [k.inState, k.outcome]; exact h.ended_iff
  truncated_iff := by rw [k.inState, k.outcome]; exact h.truncated_iff
  unreadable_iff := by rw [k.inState, k.outcome]; exact h.unreadable_iff
  busy_verify := by rw [k.busy, k.verify, k.op]; exact h.busy_verify
  bad_frame := by rw [k.badLen, k.badPay, k.outcome, k.verify]; exact h.bad_frame
  stop_iff := by rw [k.stopPhase, k.outcome]; exact h.stop_iff
  idx_range := by cases htp : t.phase <;> simp_all

end State.ControlInv

theorem State.closedInv_of_ne (s : State) (h : s.inState ≠ .closed) : s.ClosedInv :=
  ⟨fun hc => absurd hc h, fun hc => absurd hc h⟩

theorem State.offsetInv_of_notHeld (s : State) (h : s.binding = .notHeld) : s.OffsetInv := by
  simp only [State.OffsetInv, h]

/-- The result registers that are 0 while a frame is being read (R34, R35). -/
def State.ResultsClear (s : State) : Prop := s.payCksumStored = 0 ∧ s.lenCksumCalc = 0 ∧ s.payCksumCalc = 0

namespace State.ProgressInv

variable {s : State}

theorem received_len (h : s.ProgressInv) (hp : s.phase = .len) :
    s.streamOffset - s.frameStart = s.idx.setWidth 64 := by
  simpa only [hp] using h.received

theorem received_lcrc (h : s.ProgressInv) (hp : s.phase = .lcrc) :
    s.streamOffset - s.frameStart = 8 + s.idx.setWidth 64 := by
  simpa only [hp] using h.received

theorem received_pay (h : s.ProgressInv) (hp : s.phase = .pay) :
    s.streamOffset - s.frameStart = 12 + (s.length - s.remaining) := by
  simpa only [hp] using h.received

theorem received_pcrc (h : s.ProgressInv) (hp : s.phase = .pcrc) :
    s.streamOffset - s.frameStart = 12 + s.length + s.idx.setWidth 64 := by
  simpa only [hp] using h.received

/-- An idle block has no frame in progress. -/
theorem of_idle (hp : s.phase = .idle) : s.ProgressInv where
  received := by simp only [hp]
  length_zero := by simp [hp]
  lcs_zero := by simp [hp]
  results_zero := by simp [hp]
  lcrc_remaining := by simp [hp]
  pay_remaining := by simp [hp]

theorem of_len (hp : s.phase = .len) (hr : s.streamOffset - s.frameStart = s.idx.setWidth 64) (hl : s.length = 0)
    (hs : s.lenCksumStored = 0) (hz : s.ResultsClear) : s.ProgressInv where
  received := by simpa only [hp] using hr
  length_zero := fun _ => hl
  lcs_zero := fun _ => hs
  results_zero := fun _ => hz
  lcrc_remaining := by simp [hp]
  pay_remaining := by simp [hp]

theorem of_lcrc (hp : s.phase = .lcrc) (hr : s.streamOffset - s.frameStart = 8 + s.idx.setWidth 64)
    (hl : s.remaining = s.length) (hs : s.lenCksumStored = 0)
    (hz : s.ResultsClear) : s.ProgressInv where
  received := by simpa only [hp] using hr
  length_zero := by simp [hp]
  lcs_zero := fun _ => hs
  results_zero := fun _ => hz
  lcrc_remaining := fun _ => hl
  pay_remaining := by simp [hp]

theorem of_pay (hp : s.phase = .pay) (hr : s.streamOffset - s.frameStart = 12 + (s.length - s.remaining))
    (hl : 0 < s.remaining ∧ s.remaining ≤ s.length)
    (hz : s.ResultsClear) : s.ProgressInv where
  received := by simpa only [hp] using hr
  length_zero := by simp [hp]
  lcs_zero := by simp [hp]
  results_zero := fun _ => hz
  lcrc_remaining := by simp [hp]
  pay_remaining := fun _ => hl

theorem of_pcrc (hp : s.phase = .pcrc) (hr : s.streamOffset - s.frameStart = 12 + s.length + s.idx.setWidth 64)
    (hz : s.ResultsClear) : s.ProgressInv where
  received := by simpa only [hp] using hr
  length_zero := by simp [hp]
  lcs_zero := by simp [hp]
  results_zero := fun _ => hz
  lcrc_remaining := by simp [hp]
  pay_remaining := by simp [hp]

/-- The progress clauses see nothing of the binding, the error field, the standalone accumulator, the port's connection and the
model's own records. -/
theorem frame {binding : Binding} {cmdErr : Bool} {errCode : Option Rejection} {cksAcc : Word} {connected : Option Input}
    {history : List Event} {freeReads : Nat} {pending : List Move} (h : s.ProgressInv) :
    State.ProgressInv { s with
      binding := binding, cmdErr := cmdErr, errCode := errCode, cksAcc := cksAcc, connected := connected, history := history
      freeReads := freeReads, pending := pending } :=
  ⟨h.received, h.length_zero, h.lcs_zero, h.results_zero, h.lcrc_remaining, h.pay_remaining⟩

end State.ProgressInv

/-! ### The updates the invariant does not see -/

/-- The invariant does not see the standalone accumulator, the port's connection and the model's own records, and of the error field
only that CMD_ERR and ERR_CODE agree. -/
theorem State.Inv.frame {s : State} {cmdErr : Bool} {errCode : Option Rejection} {cksAcc : Word} {connected : Option Input}
    {history : List Event} {freeReads : Nat} {pending : List Move} (h : s.Inv) (he : cmdErr = errCode.isSome) :
    State.Inv { s with
      cmdErr := cmdErr, errCode := errCode, cksAcc := cksAcc, connected := connected, history := history
      freeReads := freeReads, pending := pending } where
  control := h.control.frame Iff.rfl he
  closed := ⟨h.closed.counters, h.closed.offsets⟩
  offset := h.offset
  progress := h.progress.frame

theorem State.Inv.of_pending {s : State} (h : s.Inv) (rest : List Move) : State.Inv { s with pending := rest } :=
  h.frame h.control.err_iff

/-- A step that touches nothing keeps the invariant. -/
theorem State.Untouched.inv {s t : State} (hu : s.Untouched t) (h : s.Inv) : t.Inv := by
  have he : t.cmdErr = t.errCode.isSome := by
    rcases hu.err with ⟨h1, h2⟩ | ⟨c, h1, h2⟩
    · rw [h1, h2]; exact h.control.err_iff
    · rw [h1, h2]; rfl
  rw [hu.eq]
  exact h.frame he

/-! ### Reset and the accepted commands -/

/-- The invariant holds after reset. -/
theorem State.reset_inv : State.reset.Inv where
  control := by constructor <;> simp [State.reset]
  closed := ⟨fun _ => ⟨rfl, rfl, rfl, rfl⟩, fun _ => ⟨rfl, rfl⟩⟩
  offset := State.offsetInv_of_notHeld _ rfl
  progress := State.ProgressInv.of_idle rfl

theorem State.assertReset_inv (s : State) : s.assertReset.Inv :=
  State.reset_inv.frame rfl

/-- OPEN takes a binding at its first byte and starts from 0 (R150). -/
theorem State.performOpen_inv (s : State) (h : s.Inv) (hb : s.busy = false) : s.performOpen.Inv where
  control := by
    have hp : s.phase = .idle := h.control.idle_iff.mpr hb
    have hi : s.idx = 0 := h.control.idx_zero_of_idle hp
    have hh : s.takeBinding.binding ≠ .notHeld := by cases hc : s.connected <;> simp [hc]
    constructor <;> simp [State.performOpen, hb, hp, hi, hh]
  closed := State.closedInv_of_ne _ (by simp [State.performOpen])
  offset := by
    cases hc : s.connected <;> simp [State.OffsetInv, State.performOpen, hc]
  progress := State.ProgressInv.of_idle (h.control.idle_iff.mpr hb)

/-- NEXT and SKIP begin a frame at STREAM_OFFSET with nothing of it received (R155). -/
theorem State.frameBegin_inv (s : State) (op : FrameOp) (h : s.Inv) (ho : s.inState = .opened) : (s.frameBegin op).Inv where
  control := by
    have hh := h.control.held_iff.mpr ho
    constructor <;> simp [ho, hh]
  closed := State.closedInv_of_ne _ (by simp [ho])
  offset := h.offset
  progress := State.ProgressInv.of_len rfl (by simp) rfl rfl ⟨rfl, rfl, rfl⟩

/-- CLOSE gives up the binding and leaves the frame results (R153). -/
theorem State.performClose_inv (s : State) (h : s.Inv) (hb : s.busy = false) (ho : s.inState = .opened) :
    s.performClose.Inv where
  control := by
    have hp := h.control.idle_iff.mpr hb
    have hi := h.control.idx_zero_of_idle hp
    have he := h.control.ended_iff
    have ht := h.control.truncated_iff
    have hu := h.control.unreadable_iff
    have hbad := h.control.bad_frame
    have hstop := h.control.stop_iff
    constructor <;> simp_all [State.performClose]
  closed := State.closedInv_of_ne _ (by simp [State.performClose])
  offset := State.offsetInv_of_notHeld _ rfl
  progress := State.ProgressInv.of_idle (h.control.idle_iff.mpr hb)

/-- Every accepted command keeps the invariant. -/
theorem State.perform_inv (s : State) (i : Instr) (h : s.Inv) (hb : s.busy = false) (hl : legalIn i s.inState) :
    (s.perform i).Inv := by
  cases i with
  | openInput => exact s.performOpen_inv h hb
  | nextFrame => exact s.frameBegin_inv .verify h hl
  | skipFrame => exact s.frameBegin_inv .skip h hl
  | closeInput => exact s.performClose_inv h hb hl
  | cksInit => exact h.frame rfl
  | cksByte b => exact h.frame rfl

/-! ### The answers -/

/-- A transfer does not give up the binding, nor take one. -/
theorem State.inRead_held (s : State) : s.inRead.2.binding ≠ .notHeld ↔ s.binding ≠ .notHeld := by
  rcases s.inRead_cases with ⟨_, h⟩ | ⟨_, h⟩ | ⟨_, _, _, hb, _, h⟩ | ⟨_, _, _, _, h⟩ <;> rw [h]
  simp [hb]

theorem State.inRead_busy (s : State) : s.inRead.2.busy = s.busy := by
  obtain ⟨_, _, h⟩ := s.inRead_frame; rw [h]

theorem State.inRead_inState (s : State) : s.inRead.2.inState = s.inState := by
  obtain ⟨_, _, h⟩ := s.inRead_frame; rw [h]

theorem State.inRead_control (s : State) (h : s.ControlInv) : s.inRead.2.ControlInv := by
  have hh := s.inRead_held
  obtain ⟨_, _, he⟩ := s.inRead_frame
  rw [he] at hh ⊢
  exact h.frame hh h.err_iff

theorem State.inRead_progress (s : State) (h : s.ProgressInv) : s.inRead.2.ProgressInv := by
  obtain ⟨_, _, he⟩ := s.inRead_frame
  rw [he]
  exact h.frame

/-- The number of bytes that st.idx counts, one byte on. -/
theorem idx_succ (i : BitVec 3) (h : i ≠ 7) : (i + 1).setWidth 64 = i.setWidth 64 + 1 := by
  revert i; decide

theorem idx_succ_le (i : BitVec 3) (hle : i ≤ 3) (hne : i ≠ 3) : i + 1 ≤ 3 := by
  revert i; decide

theorem idx_ne_seven (i : BitVec 3) (hle : i ≤ 3) : i ≠ 7 := by
  revert i; decide

section
variable (s : State) (b : Byte)

theorem State.lenByte_control (h : s.ControlInv) (hb : s.busy = true) (hp : s.phase = .len) : (s.lenByte b).ControlInv := by
  by_cases hi : s.idx = 7
  · apply h.of_stillReading hb (s.stillReading_lenByte b) <;> rw [s.lenByte_last b hi] <;> simp
  · apply h.of_stillReading hb (s.stillReading_lenByte b) <;> rw [s.lenByte_of_ne b hi] <;> simp [hp]

theorem State.lcrcByte_control (h : s.ControlInv) (hb : s.busy = true) (hp : s.phase = .lcrc) : (s.lcrcByte b).ControlInv := by
  by_cases hi : s.idx = 3
  · apply h.of_stillReading hb (s.stillReading_lcrcByte b) <;> rw [s.lcrcByte_last b hi]
    · dsimp only; split <;> simp
    · simp
    · simp
  · apply h.of_stillReading hb (s.stillReading_lcrcByte b) <;> rw [s.lcrcByte_of_ne b hi]
    · simp [hp]
    · exact fun _ => idx_succ_le s.idx (h.idx_le_of_lcrc hp) hi
    · simp [hp]

theorem State.payByte_control (h : s.ControlInv) (hb : s.busy = true) (hp : s.phase = .pay) : (s.payByte b).ControlInv := by
  have hz := h.idx_zero_of_pay hp
  by_cases hr : s.remaining - 1 = 0
  · apply h.of_stillReading hb (s.stillReading_payByte b) <;> rw [s.payByte_last b hr] <;> simp
  · apply h.of_stillReading hb (s.stillReading_payByte b) <;> rw [s.payByte_of_ne b hr] <;> simp [hp, hz]

/-- A frame completes with a verdict only when NEXT began it (R167, R168). -/
theorem State.completeFrame_control (h : s.ControlInv) (hb : s.busy = true) : s.completeFrame.ControlInv := by
  have ho := h.busy_open hb
  have hh := h.held_iff.mpr ho
  obtain ⟨hbl, hbp, hs⟩ := h.frameStatus_of_busy hb
  have hv : s.completeFrame.badLen = true ∨ s.completeFrame.badPay = true → s.verify = true := by
    rw [h.busy_verify hb]
    cases hop : s.op with
    | verify => intro _; rfl
    | skip =>
      obtain ⟨h1, h2⟩ := s.completeFrame_skip_bad hop
      rw [h1, h2, hbl, hbp]
      simp
  have he := h.err_iff
  constructor <;> simp [ho, hh, he, hs]
  simpa using hv

theorem State.pcrcByte_control (h : s.ControlInv) (hb : s.busy = true) (hp : s.phase = .pcrc) :
    (s.pcrcByte b).ControlInv := by
  by_cases hi : s.idx = 3
  · rw [s.pcrcByte_last b hi]
    exact State.completeFrame_control _ (h.frame Iff.rfl h.err_iff) hb
  · apply h.of_stillReading hb (s.stillReading_pcrcByte b hi) <;> rw [s.pcrcByte_of_ne b hi]
    · simp [hp]
    · exact fun _ => idx_succ_le s.idx (h.idx_le_of_pcrc hp) hi
    · simp [hp]

theorem State.cleanEnd_control (h : s.ControlInv) (hb : s.busy = true) : s.cleanEnd.ControlInv := by
  obtain ⟨hbl, hbp, hs⟩ := h.frameStatus_of_busy hb
  have he := h.err_iff
  constructor <;> simp [State.cleanEnd, hbl, hbp, hs, he]

theorem State.stopTruncated_control (h : s.ControlInv) (hb : s.busy = true) : s.stopTruncated.ControlInv := by
  obtain ⟨hbl, hbp, _⟩ := h.frameStatus_of_busy hb
  have hp : s.phase ≠ .idle := fun hp => by simp [h.idle_iff.mp hp] at hb
  have he := h.err_iff
  constructor <;> simp [State.stopTruncated, hbl, hbp, hp, he]

theorem State.stopUnreadable_control (h : s.ControlInv) (hb : s.busy = true) : s.stopUnreadable.ControlInv := by
  obtain ⟨hbl, hbp, _⟩ := h.frameStatus_of_busy hb
  have hp : s.phase ≠ .idle := fun hp => by simp [h.idle_iff.mp hp] at hb
  have he := h.err_iff
  constructor <;> simp [State.stopUnreadable, hbl, hbp, hp, he]

theorem State.onByte_control (h : s.ControlInv) (hb : s.busy = true) : (s.onByte b).ControlInv := by
  have hu : State.ControlInv { s with streamOffset := s.streamOffset + 1 } := h.frame Iff.rfl h.err_iff
  rcases s.onByte_cases b with ⟨_, he⟩ | ⟨hp, he⟩ | ⟨hp, he⟩ | ⟨hp, he⟩ | ⟨hp, he⟩ <;> rw [he]
  · exact hu
  · exact State.lenByte_control _ b hu hb hp
  · exact State.lcrcByte_control _ b hu hb hp
  · exact State.payByte_control _ b hu hb hp
  · exact State.pcrcByte_control _ b hu hb hp

theorem State.onAnswer_control (a : Answer) (h : s.ControlInv) (hb : s.busy = true) : (s.onAnswer a).ControlInv := by
  cases a with
  | byte b => exact s.onByte_control b h hb
  | endOfInput =>
    rcases s.onEnd_cases with ⟨_, _, he⟩ | ⟨_, he⟩ <;> simp only [State.onAnswer, he]
    · exact s.cleanEnd_control h hb
    · exact s.stopTruncated_control h hb
  | error => exact s.stopUnreadable_control h hb

/-! ### How far the frame has been read -/

theorem State.lenByte_progress (hp : s.phase = .len) (hr : s.streamOffset - s.frameStart = s.idx.setWidth 64 + 1)
    (hl : s.length = 0) (hs : s.lenCksumStored = 0)
    (hz : s.ResultsClear) : (s.lenByte b).ProgressInv := by
  by_cases hi : s.idx = 7
  · rw [s.lenByte_last b hi]
    exact .of_lcrc rfl (by simp [hr, hi]) rfl hs hz
  · rw [s.lenByte_of_ne b hi]
    exact .of_len hp (hr.trans (idx_succ s.idx hi).symm) hl hs hz

theorem State.lcrcByte_progress (hp : s.phase = .lcrc) (hi3 : s.idx ≤ 3)
    (hr : s.streamOffset - s.frameStart = 8 + s.idx.setWidth 64 + 1) (hl : s.remaining = s.length) (hs : s.lenCksumStored = 0)
    (hz : s.ResultsClear) : (s.lcrcByte b).ProgressInv := by
  by_cases hi : s.idx = 3
  · have hn : s.streamOffset - s.frameStart = 12 := by rw [hr, hi]; rfl
    rw [s.lcrcByte_last b hi]
    by_cases h0 : s.remaining = 0
    · exact .of_pcrc (if_pos h0) (by simp [hn, ← hl, h0]) hz
    · exact .of_pay (if_neg h0) (by simp [hn, hl]) (by dsimp only; bv_omega) hz
  · rw [s.lcrcByte_of_ne b hi]
    refine .of_lcrc hp ?_ hl hs hz
    rw [hr, idx_succ s.idx (idx_ne_seven _ hi3), add_assoc]

theorem State.payByte_progress (hp : s.phase = .pay)
    (hr : s.streamOffset - s.frameStart = 12 + (s.length - s.remaining) + 1) (hl : 0 < s.remaining ∧ s.remaining ≤ s.length)
    (hz : s.ResultsClear) : (s.payByte b).ProgressInv := by
  have hn : s.streamOffset - s.frameStart = 12 + (s.length - (s.remaining - 1)) := by rw [hr]; ring
  by_cases h1 : s.remaining - 1 = 0
  · rw [s.payByte_last b h1]
    rw [h1, sub_zero] at hn
    exact .of_pcrc rfl (by simpa using hn) hz
  · have hle : 0 < s.remaining - 1 ∧ s.remaining - 1 ≤ s.length := by bv_omega
    rw [s.payByte_of_ne b h1]
    exact .of_pay hp hn hle hz

theorem State.pcrcByte_progress (hp : s.phase = .pcrc) (hi3 : s.idx ≤ 3)
    (hr : s.streamOffset - s.frameStart = 12 + s.length + s.idx.setWidth 64 + 1)
    (hz : s.ResultsClear) : (s.pcrcByte b).ProgressInv := by
  by_cases hi : s.idx = 3
  · rw [s.pcrcByte_last b hi]
    exact .of_idle rfl
  · rw [s.pcrcByte_of_ne b hi]
    refine .of_pcrc hp ?_ hz
    rw [hr, idx_succ s.idx (idx_ne_seven _ hi3), add_assoc]

/-- The byte that STREAM_OFFSET counts is one more byte of the frame (R156). -/
theorem State.onByte_progress (h : s.ProgressInv) (hc : s.ControlInv) : (s.onByte b).ProgressInv := by
  have hcount {n : DWord} (hn : s.streamOffset - s.frameStart = n) : s.streamOffset + 1 - s.frameStart = n + 1 := by
    rw [add_sub_right_comm, hn]
  rcases s.onByte_cases b with ⟨hp, he⟩ | ⟨hp, he⟩ | ⟨hp, he⟩ | ⟨hp, he⟩ | ⟨hp, he⟩ <;> rw [he]
  · exact .of_idle hp
  · exact State.lenByte_progress _ b hp (hcount (h.received_len hp)) (h.length_zero hp) (h.lcs_zero (.inl hp))
      (h.results_zero (by simp [hp]))
  · exact State.lcrcByte_progress _ b hp (hc.idx_le_of_lcrc hp) (hcount (h.received_lcrc hp)) (h.lcrc_remaining hp)
      (h.lcs_zero (.inr hp)) (h.results_zero (by simp [hp]))
  · exact State.payByte_progress _ b hp (hcount (h.received_pay hp)) (h.pay_remaining hp) (h.results_zero (by simp [hp]))
  · exact State.pcrcByte_progress _ b hp (hc.idx_le_of_pcrc hp) (hcount (h.received_pcrc hp)) (h.results_zero (by simp [hp]))

theorem State.onAnswer_progress (a : Answer) (h : s.ProgressInv) (hc : s.ControlInv) : (s.onAnswer a).ProgressInv := by
  cases a with
  | byte b => exact s.onByte_progress b h hc
  | endOfInput => rcases s.onEnd_cases with ⟨_, _, he⟩ | ⟨_, he⟩ <;> simp only [State.onAnswer, he] <;> exact .of_idle rfl
  | error => exact .of_idle rfl

/-! ### The bytes given -/

/-- A byte keeps the binding and counts in STREAM_OFFSET (R156). -/
theorem State.onByte_binding : (s.onByte b).binding = s.binding := by
  rcases s.onByte_effect b with h | ⟨_, _, h⟩
  · exact h.binding
  · rw [h]; simp [State.lastByteTaken]

theorem State.onByte_streamOffset : (s.onByte b).streamOffset = s.streamOffset + 1 := by
  rcases s.onByte_effect b with h | ⟨_, _, h⟩
  · exact h.streamOffset
  · rw [h]; simp [State.lastByteTaken]

/-- The answer at the end of the data gives up the binding (R69, R161 to R163). -/
theorem State.onAnswer_termAnswer_binding (e : Term) : (s.onAnswer (termAnswer e)).binding = .notHeld := by
  cases e with
  | error => rfl
  | endOfInput => rcases s.onEnd_cases with ⟨_, _, he⟩ | ⟨_, he⟩ <;> simp only [termAnswer, State.onAnswer, he] <;> rfl

theorem State.onAnswer_offset_of_unconnected (a : Answer) (h : s.binding = .unconnected) : (s.onAnswer a).OffsetInv := by
  rcases s.onAnswer_effect a with hk | ⟨b, he⟩ | he | he | he
  · simp only [State.OffsetInv, hk.binding, h]
  · simp only [State.OffsetInv, he, State.completeFrame_binding, State.lastByteTaken, h]
  · exact State.offsetInv_of_notHeld _ (by rw [he]; rfl)
  · exact State.offsetInv_of_notHeld _ (by rw [he]; rfl)
  · exact State.offsetInv_of_notHeld _ (by rw [he]; rfl)

/-- The source's position and STREAM_OFFSET move together. -/
theorem State.answer_offset (a : Answer) (h : s.OffsetInv) (ha : s.inRead.1 = some a) : (s.inRead.2.onAnswer a).OffsetInv := by
  rcases s.inRead_cases with ⟨_, hr⟩ | ⟨hu, hr⟩ | ⟨input, pos, b, hs, hd, hr⟩ | ⟨input, pos, hs, hd, hr⟩ <;>
    rw [hr] at ha ⊢
  · cases ha
  · exact State.onAnswer_offset_of_unconnected _ a hu
  · cases ha
    have hlt : pos < input.data.length := (List.getElem?_eq_some_iff.mp hd).1
    simp only [State.OffsetInv, hs] at h
    simp only [State.OffsetInv, State.onAnswer, State.onByte_binding, State.onByte_streamOffset]
    exact ⟨hlt, by rw [h.2, BitVec.ofNat_add]; rfl⟩
  · cases ha
    exact State.offsetInv_of_notHeld _ (s.onAnswer_termAnswer_binding input.term)

/-- No answer leads to CLOSED. -/
theorem State.onAnswer_inState_ne_closed (a : Answer) (h : s.inState = .opened) : (s.onAnswer a).inState ≠ .closed := by
  rcases s.onAnswer_effect a with hk | ⟨b, he⟩ | he | he | he
  · simp [hk.inState, h]
  · simp [he, State.lastByteTaken, h]
  · simp [he, State.cleanEnd]
  · simp [he, State.stopTruncated]
  · simp [he, State.stopUnreadable]

/-- An engine step keeps the invariant. -/
theorem State.answer_inv (a : Answer) (h : s.Inv) (hb : s.busy = true) (ha : s.inRead.1 = some a) :
    (s.inRead.2.onAnswer a).Inv where
  control := State.onAnswer_control _ a (s.inRead_control h.control) (by rw [s.inRead_busy, hb])
  closed := State.closedInv_of_ne _
    (State.onAnswer_inState_ne_closed _ a (by rw [s.inRead_inState]; exact h.control.busy_open hb))
  offset := s.answer_offset a h.offset ha
  progress := State.onAnswer_progress _ a (s.inRead_progress h.progress) (s.inRead_control h.control)

end

/-- Settles O47. -/
theorem resetSatisfiesInvariant : Obligations.ResetSatisfiesInvariant :=
  State.reset_inv

/-- Settles O48, effect by effect of a step. -/
theorem stepKeepsInvariant : Obligations.StepKeepsInvariant := by
  intro s t h hst
  rcases step_effect s t hst with hu | ⟨_, rest, i, _, _, hb, hl, rfl⟩ | ⟨_, _, rfl⟩ | ⟨rest, a, _, hb, _, ha, rfl⟩
  · exact hu.inv h
  · exact State.perform_inv _ i (h.of_pending rest) hb hl
  · exact State.assertReset_inv _
  · exact State.answer_inv _ a (h.of_pending rest) hb ha

end Sys2Proof.Machine
end

section
/-! PROOFS. What changes a field and what does not: BUSY, IN_STATE, the standalone accumulator, the order of the counters and of
the offsets (10_state.md R24, R26, R49, R51). -/

namespace Sys2Proof.Machine

/-! ### The standalone accumulator -/

/-- No answer disturbs a standalone checksum (R49). -/
theorem State.onAnswer_cksAcc (s : State) (a : Answer) : (s.onAnswer a).cksAcc = s.cksAcc := by
  rcases s.onAnswer_effect a with hk | ⟨b, he⟩ | he | he | he
  · exact hk.cksAcc
  · simp [he, State.lastByteTaken]
  · simp [he, State.cleanEnd]
  · simp [he, State.stopTruncated]
  · simp [he, State.stopUnreadable]

theorem State.inRead_cksAcc (s : State) : s.inRead.2.cksAcc = s.cksAcc := by
  obtain ⟨_, _, h⟩ := s.inRead_frame; rw [h]

/-- The commands that change the standalone accumulator are CKS_INIT and CKS_BYTE. -/
theorem State.perform_cksAcc (s : State) (i : Instr) (h : (s.perform i).cksAcc ≠ s.cksAcc) :
    i = .cksInit ∨ ∃ b, i = .cksByte b := by
  cases i with
  | openInput => exact absurd rfl h
  | nextFrame => exact absurd rfl h
  | skipFrame => exact absurd rfl h
  | closeInput => exact absurd rfl h
  | cksInit => exact .inl rfl
  | cksByte b => exact .inr ⟨b, rfl⟩

/-- Settles O55. -/
theorem onlyChecksumCommandsChangeTheAccumulator : Obligations.OnlyChecksumCommandsChangeTheAccumulator := by
  intro s t h hne
  rcases step_effect s t h with hu | ⟨w, rest, i, hp, hd, hb, _, rfl⟩ | ⟨rest, hp, _⟩ | ⟨rest, a, _, _, _, _, rfl⟩
  · exact absurd hu.cksAcc hne
  · exact .inl ⟨w, rest, i, hp, hd, hb, State.perform_cksAcc _ i hne⟩
  · exact .inr ⟨rest, hp⟩
  · rw [State.onAnswer_cksAcc, State.inRead_cksAcc] at hne
    exact absurd rfl hne

/-! ### IN_STATE -/

/-- An answer leaves IN_STATE, or ends the input with the outcome that names the new IN_STATE (R161 to R163). -/
theorem State.onAnswer_inState (s : State) (a : Answer) :
    (s.onAnswer a).inState = s.inState ∨
    (s.onAnswer a).inState = .ended ∧ (s.onAnswer a).outcome = .endOfStream ∨
    (s.onAnswer a).inState = .truncated ∧ (s.onAnswer a).outcome = .truncated ∨
    (s.onAnswer a).inState = .unreadable ∧ (s.onAnswer a).outcome = .unreadable := by
  rcases s.onAnswer_effect a with hk | ⟨b, he⟩ | he | he | he
  · exact .inl hk.inState
  · exact .inl (by simp [he, State.lastByteTaken])
  · exact .inr (.inl (by simp [he, State.cleanEnd]))
  · exact .inr (.inr (.inl (by simp [he, State.stopTruncated])))
  · exact .inr (.inr (.inr (by simp [he, State.stopUnreadable])))

/-- The commands that change IN_STATE are OPEN and CLOSE. -/
theorem State.perform_inState (s : State) (i : Instr) (h : (s.perform i).inState ≠ s.inState) :
    (i = .openInput ∧ (s.perform i).inState = .opened) ∨ (i = .closeInput ∧ (s.perform i).inState = .abandoned) := by
  cases i with
  | openInput => exact .inl ⟨rfl, rfl⟩
  | closeInput => exact .inr ⟨rfl, rfl⟩
  | nextFrame => exact absurd rfl h
  | skipFrame => exact absurd rfl h
  | cksInit => exact absurd rfl h
  | cksByte b => exact absurd rfl h

/-- Settles O54. -/
theorem inputStateTransitions : Obligations.InputStateTransitions := by
  intro s t hinv h hne
  rcases step_effect s t h with hu | ⟨w, rest, i, hp, hd, hb, hl, rfl⟩ | ⟨rest, hp, rfl⟩ | ⟨rest, a, hp, hb, _, _, rfl⟩
  · exact absurd hu.inState hne
  · rcases State.perform_inState _ i hne with ⟨rfl, ho⟩ | ⟨rfl, ha⟩
    · exact .inl ⟨w, rest, hp, hd, ho⟩
    · exact .inr (.inl ⟨w, rest, hp, hd, hl, hb, ha⟩)
  · exact .inr (.inr (.inr ⟨rest, hp, rfl⟩))
  · rcases State.onAnswer_inState (State.inRead { s with pending := rest }).2 a with hs | hends
    · rw [State.inRead_inState] at hs
      exact absurd hs hne
    · exact .inr (.inr (.inl ⟨rest, hp, hinv.control.busy_open hb, hb, hends⟩))

/-! ### BUSY -/

/-- An answer leaves BUSY, or clears it with the outcome of the command (R160 to R166). -/
theorem State.onAnswer_busy (s : State) (a : Answer) :
    (s.onAnswer a).busy = s.busy ∨
    ((s.onAnswer a).busy = false ∧
      ((s.onAnswer a).outcome = .frame ∨ (s.onAnswer a).outcome = .endOfStream ∨ (s.onAnswer a).outcome = .truncated ∨
        (s.onAnswer a).outcome = .unreadable)) := by
  rcases s.onAnswer_effect a with hk | ⟨b, he⟩ | he | he | he
  · exact .inl hk.busy
  · exact .inr (by simp [he])
  · exact .inr (by simp [he, State.cleanEnd])
  · exact .inr (by simp [he, State.stopTruncated])
  · exact .inr (by simp [he, State.stopUnreadable])

/-- The commands that change BUSY are NEXT and SKIP, which set it. -/
theorem State.perform_busy (s : State) (i : Instr) (h : (s.perform i).busy ≠ s.busy) :
    (i = .nextFrame ∨ i = .skipFrame) ∧ (s.perform i).busy = true := by
  cases i with
  | nextFrame => exact ⟨.inl rfl, rfl⟩
  | skipFrame => exact ⟨.inr rfl, rfl⟩
  | openInput => exact absurd rfl h
  | closeInput => exact absurd rfl h
  | cksInit => exact absurd rfl h
  | cksByte b => exact absurd rfl h

/-- An accepted NEXT or SKIP sets BUSY. -/
theorem exec_frameCommand_busy (s : State) (i : Instr) (hi : i = .nextFrame ∨ i = .skipFrame) (hb : s.busy = false)
    (ho : s.inState = .opened) : ∃ t, exec i s = .next t ∧ t.busy = true := by
  rcases hi with rfl | rfl
  · exact ⟨_, exec_of_legal _ s hb ho, rfl⟩
  · exact ⟨_, exec_of_legal _ s hb ho, rfl⟩

/-- An engine step that clears BUSY leaves the outcome of the command. -/
theorem engineStep_outcome (s t : State) (h : engineStep s = .next t) (hb : s.busy = true) (hf : t.busy = false) :
    t.outcome = .frame ∨ t.outcome = .endOfStream ∨ t.outcome = .truncated ∨ t.outcome = .unreadable := by
  rcases engineStep_effect s t h with hu | ⟨a, _, _, _, rfl⟩
  · simp [hu.busy, hb] at hf
  · rcases s.inRead.2.onAnswer_busy a with hs | ⟨_, ho⟩
    · simp [hs, s.inRead_busy, hb] at hf
    · exact ho

/-- What changes BUSY (R24). -/
theorem step_busy_changes (s t : State) (h : step s = .next t) (hne : t.busy ≠ s.busy) :
    (∃ w rest i, s.pending = .write 0x00 4 w :: rest ∧ decode w = .cmd i ∧ (i = .nextFrame ∨ i = .skipFrame) ∧
      s.busy = false ∧ s.inState = .opened ∧ t.busy = true) ∨
    (∃ rest, s.pending = .answer :: rest ∧ t.busy = false) ∨
    (∃ rest, s.pending = .reset :: rest ∧ t.busy = false) := by
  rcases step_effect s t h with hu | ⟨w, rest, i, hp, hd, hb, hl, rfl⟩ | ⟨rest, hp, rfl⟩ | ⟨rest, a, hp, hb, _, _, rfl⟩
  · exact absurd hu.busy hne
  · obtain ⟨hi, ht⟩ := State.perform_busy _ i hne
    have ho : s.inState = .opened := by rcases hi with rfl | rfl <;> exact hl
    exact .inl ⟨w, rest, i, hp, hd, hi, hb, ho, ht⟩
  · exact .inr (.inr ⟨rest, hp, rfl⟩)
  · exact .inr (.inl ⟨rest, hp, by simpa [hb] using hne⟩)

/-- Settles O53. An outcome stands only in an idle block, by the invariant of O48. -/
theorem busyChangesOnlyAsStated : Obligations.BusyChangesOnlyAsStated := by
  refine ⟨exec_frameCommand_busy, ?_, step_busy_changes⟩
  intro s t rest hinv hp hb h
  have he : engineStep { s with pending := rest } = .next t := by rw [← step_answer s rest hp, h]
  refine ⟨engineStep_outcome _ t he hb, fun ho => ?_⟩
  have hn := (stepKeepsInvariant s t hinv h).control.busy_none
  by_contra hbt
  simp [hn (by simpa using hbt)] at ho

/-! ### The order of the counters and of the offsets -/

/-- Neither bad count exceeds RECORDS_CHECKED (R51). -/
def State.CountsOrdered (s : State) : Prop := s.badLenCount ≤ s.recordsChecked ∧ s.badPayCount ≤ s.recordsChecked

theorem State.CountsOrdered.of_eq {s t : State} (h : s.CountsOrdered) (hr : t.recordsChecked = s.recordsChecked)
    (hl : t.badLenCount = s.badLenCount) (hp : t.badPayCount = s.badPayCount) : t.CountsOrdered := by
  unfold State.CountsOrdered
  rw [hr, hl, hp]
  exact h

/-- A count that goes up by at most one stays ordered when RECORDS_CHECKED goes up without wrap. -/
theorem count_le_succ (p : Prop) [Decidable p] (n m : DWord) (h : n ≤ m) (hm : m ≠ 0xFFFFFFFFFFFFFFFF) :
    (if p then n + 1 else n) ≤ m + 1 := by
  split <;> bv_omega

/-- A completed frame raises a bad count only together with RECORDS_CHECKED (R168). -/
theorem State.completeFrame_countsOrdered (s : State) (h : s.CountsOrdered) (hn : s.recordsChecked ≠ 0xFFFFFFFFFFFFFFFF) :
    s.completeFrame.CountsOrdered := by
  obtain ⟨hl, hp⟩ := h
  cases hop : s.op with
  | verify => rw [s.completeFrame_verify hop]; exact ⟨count_le_succ _ _ _ hl hn, count_le_succ _ _ _ hp hn⟩
  | skip => rw [s.completeFrame_skip hop]; exact ⟨hl, hp⟩

theorem State.onAnswer_countsOrdered (s : State) (a : Answer) (h : s.CountsOrdered)
    (hn : s.recordsChecked ≠ 0xFFFFFFFFFFFFFFFF) : (s.onAnswer a).CountsOrdered := by
  rcases s.onAnswer_effect a with hk | ⟨b, he⟩ | he | he | he
  · exact h.of_eq hk.recordsChecked hk.badLenCount hk.badPayCount
  · rw [he]; exact (s.lastByteTaken b).completeFrame_countsOrdered h hn
  · rw [he]; exact h
  · rw [he]; exact h
  · rw [he]; exact h

theorem State.perform_countsOrdered (s : State) (i : Instr) (h : s.CountsOrdered) : (s.perform i).CountsOrdered := by
  cases i with
  | openInput => exact ⟨BitVec.le_refl _, BitVec.le_refl _⟩
  | nextFrame => exact h
  | skipFrame => exact h
  | closeInput => exact h
  | cksInit => exact h
  | cksByte b => exact h

theorem step_countsOrdered (s t : State) (h : s.CountsOrdered) (hn : s.recordsChecked ≠ 0xFFFFFFFFFFFFFFFF)
    (hst : step s = .next t) : t.CountsOrdered := by
  rcases step_effect s t hst with hu | ⟨_, rest, i, _, _, _, _, rfl⟩ | ⟨_, _, rfl⟩ | ⟨rest, a, _, _, _, _, rfl⟩
  · exact h.of_eq hu.recordsChecked hu.badLenCount hu.badPayCount
  · exact State.perform_countsOrdered _ i h
  · exact ⟨BitVec.le_refl _, BitVec.le_refl _⟩
  · obtain ⟨_, _, hr⟩ := State.inRead_frame { s with pending := rest }
    rw [hr]
    exact State.onAnswer_countsOrdered _ a h hn

/-- An answer leaves FRAME_START, and moves STREAM_OFFSET by a byte or not at all (R156). -/
theorem State.onAnswer_offsets (s : State) (a : Answer) :
    (s.onAnswer a).frameStart = s.frameStart ∧
    ((s.onAnswer a).streamOffset = s.streamOffset + 1 ∨ (s.onAnswer a).streamOffset = s.streamOffset) := by
  rcases s.onAnswer_effect a with hk | ⟨b, he⟩ | he | he | he
  · exact ⟨hk.frameStart, .inl hk.streamOffset⟩
  · simp [he, State.lastByteTaken]
  · simp [he, State.cleanEnd]
  · simp [he, State.stopTruncated]
  · simp [he, State.stopUnreadable]

theorem State.onAnswer_offsetsOrdered (s : State) (a : Answer) (h : s.frameStart ≤ s.streamOffset)
    (hn : s.streamOffset ≠ 0xFFFFFFFFFFFFFFFF) : (s.onAnswer a).frameStart ≤ (s.onAnswer a).streamOffset := by
  obtain ⟨hf, ho | ho⟩ := s.onAnswer_offsets a <;> rw [hf, ho]
  · bv_omega
  · exact h

theorem State.perform_offsetsOrdered (s : State) (i : Instr) (h : s.frameStart ≤ s.streamOffset) :
    (s.perform i).frameStart ≤ (s.perform i).streamOffset := by
  cases i with
  | openInput => exact BitVec.le_refl _
  | nextFrame => exact BitVec.le_refl _
  | skipFrame => exact BitVec.le_refl _
  | closeInput => exact h
  | cksInit => exact h
  | cksByte b => exact h

theorem step_offsetsOrdered (s t : State) (h : s.frameStart ≤ s.streamOffset) (hn : s.streamOffset ≠ 0xFFFFFFFFFFFFFFFF)
    (hst : step s = .next t) : t.frameStart ≤ t.streamOffset := by
  rcases step_effect s t hst with hu | ⟨_, rest, i, _, _, _, _, rfl⟩ | ⟨_, _, rfl⟩ | ⟨rest, a, _, _, _, _, rfl⟩
  · rw [hu.frameStart, hu.streamOffset]; exact h
  · exact State.perform_offsetsOrdered _ i h
  · exact BitVec.le_refl _
  · obtain ⟨_, _, hr⟩ := State.inRead_frame { s with pending := rest }
    rw [hr]
    exact State.onAnswer_offsetsOrdered _ a h hn

/-- Settles O50. -/
theorem countersAndOffsetsStayOrdered : Obligations.CountersAndOffsetsStayOrdered :=
  ⟨fun s t hl hp hn h => step_countsOrdered s t ⟨hl, hp⟩ hn h, step_offsetsOrdered⟩

end Sys2Proof.Machine
end

section
/-! PROOFS. The register window read field by field: the map of offsets, the bits of STATUS and FRAME_STATUS, the lane of a
collected byte, the reset values (10_state.md R21 to R32, R43, R45, R50; 20_memory.md R63). -/

namespace Sys2Proof.Machine

/-- Settles O25: a lane of 8 bits ends at bit 8*idx+7. -/
theorem collectedByteOccupiesItsLane : Obligations.CollectedByteOccupiesItsLane := by
  have hlane (k i : Nat) : 8 * k ≤ i ∧ i < 8 * k + 8 ↔ 8 * k ≤ i ∧ i ≤ 8 * k + 7 := by omega
  constructor
  · intro v idx b i hi
    simp only [placeByte_getLsbD v _ b i hi, hlane]
  · intro v idx b i hi _
    simp only [placeByte_getLsbD v _ b i hi, hlane]

/-! ### The map of offsets -/

/-- A 64-bit register is read by its two halves (R63). -/
theorem State.memRead_halves (s : State) (lo hi : Nat) (rlo rhi : Reg) (x : DWord) (hlo : lo % 4 = 0 ∧ regAt lo = some rlo)
    (hhi : hi % 4 = 0 ∧ regAt hi = some rhi) (hrlo : s.readReg rlo = lowHalf x) (hrhi : s.readReg rhi = highHalf x) :
    s.memRead hi 4 ++ s.memRead lo 4 = x := by
  rw [s.memRead_listed lo rlo hlo.1 hlo.2, s.memRead_listed hi rhi hhi.1 hhi.2, hrlo, hrhi, highHalf_append_lowHalf]

/-- The offsets that R21 does not list (R43). -/
theorem regAt_reserved (off : Nat) (h : off = 0x0C ∨ 0x5C ≤ off) : regAt off = none := by
  have hlisted : ∀ p ∈ regMap, p.1 ≠ 0x0C ∧ p.1 < 0x5C := by decide
  rw [regAt, List.lookup_eq_none_iff]
  intro p hp
  obtain ⟨hne, hlt⟩ := hlisted p hp
  rw [bne_iff_ne]
  omega

/-- Settles O37. -/
theorem windowReadsTheRegisterMap : Obligations.WindowReadsTheRegisterMap := by
  intro s
  refine ⟨s.memRead_listed _ .cmd rfl rfl, s.memRead_listed _ .status rfl rfl, s.memRead_listed _ .frameStatus rfl rfl,
    s.memRead_halves _ _ .lengthLo .lengthHi _ ⟨rfl, rfl⟩ ⟨rfl, rfl⟩ rfl rfl,
    s.memRead_listed _ .lenCksumStored rfl rfl, s.memRead_listed _ .lenCksumCalc rfl rfl,
    s.memRead_listed _ .payCksumStored rfl rfl, s.memRead_listed _ .payCksumCalc rfl rfl,
    s.memRead_halves _ _ .recordsCheckedLo .recordsCheckedHi _ ⟨rfl, rfl⟩ ⟨rfl, rfl⟩ rfl rfl,
    s.memRead_halves _ _ .badLenCountLo .badLenCountHi _ ⟨rfl, rfl⟩ ⟨rfl, rfl⟩ rfl rfl,
    s.memRead_halves _ _ .badPayCountLo .badPayCountHi _ ⟨rfl, rfl⟩ ⟨rfl, rfl⟩ rfl rfl,
    s.memRead_halves _ _ .recordsSkippedLo .recordsSkippedHi _ ⟨rfl, rfl⟩ ⟨rfl, rfl⟩ rfl rfl,
    s.memRead_halves _ _ .streamOffsetLo .streamOffsetHi _ ⟨rfl, rfl⟩ ⟨rfl, rfl⟩ rfl rfl,
    s.memRead_halves _ _ .frameStartLo .frameStartHi _ ⟨rfl, rfl⟩ ⟨rfl, rfl⟩ rfl rfl,
    s.memRead_listed _ .cksResult rfl rfl, ?_⟩
  rintro off (rfl | ⟨hlo, _⟩)
  · exact s.memRead_reserved _ 4 (regAt_reserved _ (.inl rfl))
  · exact s.memRead_reserved _ 4 (regAt_reserved _ (.inr hlo))

/-! ### The bits of STATUS and FRAME_STATUS -/

/-- A field's bits stand from bit lo up. -/
theorem fieldAt_getLsbD {w : Nat} (v : BitVec w) (lo i : Nat) (hi : i < 32) :
    (fieldAt v lo).getLsbD i = (decide (lo ≤ i) && v.getLsbD (i - lo)) := by
  by_cases h : lo ≤ i
  · simp [fieldAt, hi, h]
  · simp [fieldAt, hi, h, Nat.lt_of_not_le h]

/-- The bits of STATUS (R23). -/
theorem State.statusWord_getLsbD (s : State) (i : Nat) (hi : i < 32) :
    s.statusWord.getLsbD i =
      if i < 1 then s.busy
      else if i < 2 then s.cmdErr
      else if i < 5 then (errCodeOf s.errCode).getLsbD (i - 2)
      else if i < 8 then false
      else if i < 11 then (inStateCode s.inState).getLsbD (i - 8)
      else if i < 12 then false
      else if i < 15 then (phaseCode s.phase).getLsbD (i - 12)
      else if i < 16 then s.summaryClean
      else false := by
  simp only [State.statusWord, BitVec.getLsbD_or, fieldAt_getLsbD _ _ i hi]
  interval_cases i <;> simp

/-- The bits of FRAME_STATUS (R29). -/
theorem State.frameStatusWord_getLsbD (s : State) (i : Nat) (hi : i < 32) :
    s.frameStatusWord.getLsbD i =
      if i < 3 then (outcomeCode s.outcome).getLsbD i
      else if i < 4 then s.verify
      else if i < 5 then s.badLen
      else if i < 6 then s.badPay
      else if i < 7 then s.frameValid
      else if i < 8 then false
      else if i < 11 then (phaseCode s.stopPhase).getLsbD (i - 8)
      else false := by
  simp only [State.frameStatusWord, BitVec.getLsbD_or, fieldAt_getLsbD _ _ i hi]
  interval_cases i <;> simp

/-- A field of a register is the value whose bits stand there. -/
theorem extractLsb'_eq_of_getLsbD (v : Word) {w : Nat} (lo : Nat) (x : BitVec w)
    (h : ∀ i, i < w → v.getLsbD (lo + i) = x.getLsbD i) : v.extractLsb' lo w = x := by
  apply BitVec.eq_of_getLsbD_eq
  intro i hi
  rw [BitVec.getLsbD_extractLsb', h i hi]
  simp [hi]

theorem State.statusWord_errCode (s : State) : s.statusWord.extractLsb' 2 3 = errCodeOf s.errCode := by
  refine extractLsb'_eq_of_getLsbD _ _ _ fun i hi => ?_
  rw [s.statusWord_getLsbD _ (by omega)]
  interval_cases i <;> simp

theorem State.statusWord_inState (s : State) : s.statusWord.extractLsb' 8 3 = inStateCode s.inState := by
  refine extractLsb'_eq_of_getLsbD _ _ _ fun i hi => ?_
  rw [s.statusWord_getLsbD _ (by omega)]
  interval_cases i <;> simp

theorem State.statusWord_phase (s : State) : s.statusWord.extractLsb' 12 3 = phaseCode s.phase := by
  refine extractLsb'_eq_of_getLsbD _ _ _ fun i hi => ?_
  rw [s.statusWord_getLsbD _ (by omega)]
  interval_cases i <;> simp

theorem State.frameStatusWord_outcome (s : State) : s.frameStatusWord.extractLsb' 0 3 = outcomeCode s.outcome := by
  refine extractLsb'_eq_of_getLsbD _ _ _ fun i hi => ?_
  rw [s.frameStatusWord_getLsbD _ (by omega)]
  interval_cases i <;> simp

theorem State.frameStatusWord_stopPhase (s : State) : s.frameStatusWord.extractLsb' 8 3 = phaseCode s.stopPhase := by
  refine extractLsb'_eq_of_getLsbD _ _ _ fun i hi => ?_
  rw [s.frameStatusWord_getLsbD _ (by omega)]
  interval_cases i <;> simp

/-- SUMMARY_CLEAN (R28). -/
theorem State.summaryClean_iff (s : State) :
    s.summaryClean = true ↔ s.inState = .ended ∧ s.badLenCount = 0 ∧ s.badPayCount = 0 := by
  simp [State.summaryClean, and_assoc]

/-- VALID (R31). -/
theorem State.frameValid_iff (s : State) :
    s.frameValid = true ↔ s.outcome = .frame ∧ s.verify = true ∧ s.badLen = false ∧ s.badPay = false := by
  simp [State.frameValid, and_assoc]

/-- Settles O38. -/
theorem statusFieldsAtTheirBits : Obligations.StatusFieldsAtTheirBits := by
  intro s
  refine ⟨s.statusWord_getLsbD 0 (by decide), s.statusWord_getLsbD 1 (by decide), ?_, ?_, ?_, s.statusWord_getLsbD 11 (by decide),
    ?_, ?_, ?_⟩
  · rw [s.statusWord_errCode]
    rcases s.errCode with _ | c
    · rfl
    · cases c <;> rfl
  · refine extractLsb'_eq_of_getLsbD _ _ _ fun i hi => ?_
    rw [s.statusWord_getLsbD _ (by omega)]
    interval_cases i <;> rfl
  · rw [s.statusWord_inState]
    cases s.inState <;> rfl
  · rw [s.statusWord_phase]
    cases s.phase <;> rfl
  · rw [← s.summaryClean_iff]
    exact iff_of_eq (congrArg (· = true) (s.statusWord_getLsbD 15 (by decide)))
  · refine extractLsb'_eq_of_getLsbD _ _ _ fun i hi => ?_
    rw [s.statusWord_getLsbD _ (by omega)]
    interval_cases i <;> rfl

/-- Settles O39. -/
theorem frameStatusFieldsAtTheirBits : Obligations.FrameStatusFieldsAtTheirBits := by
  intro s
  refine ⟨?_, s.frameStatusWord_getLsbD 3 (by decide), s.frameStatusWord_getLsbD 4 (by decide),
    s.frameStatusWord_getLsbD 5 (by decide), ?_, s.frameStatusWord_getLsbD 7 (by decide), ?_, ?_⟩
  · rw [s.frameStatusWord_outcome]
    cases s.outcome <;> rfl
  · rw [← s.frameValid_iff]
    exact iff_of_eq (congrArg (· = true) (s.frameStatusWord_getLsbD 6 (by decide)))
  · rw [s.frameStatusWord_stopPhase]
    cases s.stopPhase <;> rfl
  · refine extractLsb'_eq_of_getLsbD _ _ _ fun i hi => ?_
    rw [s.frameStatusWord_getLsbD _ (by omega)]
    interval_cases i <;> rfl

/-- Settles O44, element by element: all but the two words and CKS_RESULT are stored fields of State.reset. -/
theorem resetValues : Obligations.ResetValues := by
  have hstatus : State.reset.statusWord = 0 := by decide
  have hframe : State.reset.frameStatusWord = 0 := by decide
  have hcks : State.reset.cksResult = 0xA282EAD8 := by decide
  exact ⟨hstatus, hframe, rfl, rfl, rfl, rfl, rfl, rfl, rfl, rfl, rfl, rfl, rfl, rfl, rfl, rfl, rfl, rfl, rfl, rfl, rfl, rfl,
    rfl, rfl, hcks, rfl, rfl, rfl, rfl, rfl, rfl, rfl, rfl, rfl⟩

end Sys2Proof.Machine
end

section
/-! PROOFS. The register window as the host uses it: the accesses with no effect, what a read leaves, the bytes of a register, and the
registers of an idle block (20_memory.md R61, R62, R64, R76). -/

namespace Sys2Proof.Machine

/-! ### What an access or a binding leaves -/

/-- A register shows nothing of the port's connection, of the events recorded and of the moves to come. -/
theorem State.sameRegisters_frame (s : State) (connected : Option Input) (history : List Event) (pending : List Move) :
    s.SameRegisters { s with connected := connected, history := history, pending := pending } := by
  intro r
  cases r <;> rfl

/-- Every access reads the same from blocks with the same registers. -/
theorem State.SameRegisters.memRead_eq {s t : State} (h : s.SameRegisters t) (off width : Nat) :
    t.memRead off width = s.memRead off width := by
  unfold State.memRead
  cases regAt off with
  | none => rfl
  | some r => simp only [h r]

theorem accessDefined_eq_false (off width : Nat) (h : off % 4 ≠ 0 ∨ width ≠ 4) : accessDefined off width = false := by
  rcases h with h | h <;> simp [accessDefined, h]

/-- A read inside the window is the host's observation of the value, and nothing else. -/
theorem step_read_of_lt (s : State) (off width : Nat) (rest : List Move) (hp : s.pending = .read off width :: rest)
    (ho : off < 0x100) :
    step s = .next { s with pending := rest, history := s.history ++ [.readData off width (s.memRead off width)] } :=
  (step_read s off width rest hp).trans (if_pos ho)

/-- A write inside the window to anything but CMD takes its move, and nothing else. -/
theorem step_writeIgnored_of_lt (s : State) (off width : Nat) (v : Word) (rest : List Move)
    (hp : s.pending = .write off width v :: rest) (hn : ¬ (off = 0 ∧ width = 4)) (ho : off < 0x100) :
    step s = .next { s with pending := rest } :=
  (step_writeIgnored s off width v rest hp hn).trans (if_pos ho)

/-- Settles O40. -/
theorem misalignedAccessHasNoEffect : Obligations.MisalignedAccessHasNoEffect := by
  intro s off width v rest ho hbad
  have hread : s.memRead off width = 0 := s.memRead_undefined off width (accessDefined_eq_false off width hbad)
  have hn : ¬ (off = 0 ∧ width = 4) := by omega
  refine ⟨hread, fun hp => step_writeIgnored_of_lt s off width v rest hp hn ho, fun hp => ?_⟩
  rw [step_read_of_lt s off width rest hp ho, hread]

/-- Settles O41. -/
theorem onlyCommandWritesHaveEffect : Obligations.OnlyCommandWritesHaveEffect := by
  constructor
  · intro s off width rest hp ho
    exact ⟨_, step_read_of_lt s off width rest hp ho, rfl, (s.sameRegisters_frame _ _ _).memRead_eq⟩
  · intro s off width v rest hp ho hn
    exact step_writeIgnored_of_lt s off width v rest hp hn ho

/-! ### The bytes of a register -/

theorem byteLane_getLsbD (v : Word) (k i : Nat) (hi : i < 8) : (byteLane v k).getLsbD i = v.getLsbD (8 * k + i) := by
  simp [byteLane, hi]

/-- Byte k of the register at an aligned offset. -/
theorem State.windowByte_add (s : State) (off k : Nat) (ha : off % 4 = 0) (hk : k < 4) :
    s.windowByte (off + k) = byteLane (s.memRead off 4) k := by
  have hoff : 4 * ((off + k) / 4) = off := by omega
  have hlane : (off + k) % 4 = k := by omega
  rw [State.windowByte, hoff, hlane]

/-- Settles O42. -/
theorem registerBytesAreLittleEndian : Obligations.RegisterBytesAreLittleEndian := by
  intro s off k i ha hk hi
  rw [s.windowByte_add off k ha hk, byteLane_getLsbD _ k i hi]

/-! ### The registers of an idle block -/

/-- An idle block takes no engine step (60_exceptions.md R246). -/
theorem engineStep_of_idle (s : State) (hb : s.busy = false) : engineStep s = .next s := by
  simp [engineStep, hb]

/-- Settles O58, move by move: without a write to CMD and without reset, a step of an idle block changes at most the port's
connection, the history and the moves to come. -/
theorem idleRegistersAreStable : Obligations.IdleRegistersAreStable := by
  intro s t hb h hcmd hreset
  rcases step_cases s t h with ⟨_, rfl⟩ | ⟨w, rest, _, hp, _⟩ | ⟨w, rest, _, hp, _⟩ | ⟨_, _, _, _, _, _, _, rfl⟩ |
    ⟨_, _, _, _, _, rfl⟩ | ⟨_, _, _, _, rfl⟩ | ⟨rest, hp, _⟩ | ⟨rest, _, he⟩
  · exact ⟨t.sameRegisters_frame _ _ _, hb⟩
  · exact absurd hp (hcmd w rest)
  · exact absurd hp (hcmd w rest)
  · exact ⟨s.sameRegisters_frame _ _ _, hb⟩
  · exact ⟨s.sameRegisters_frame _ _ _, hb⟩
  · exact ⟨s.sameRegisters_frame _ _ _, hb⟩
  · exact absurd hp (hreset rest)
  · have hidle := engineStep_of_idle { s with pending := rest } hb
    rw [hidle] at he
    cases he
    exact ⟨s.sameRegisters_frame _ _ _, hb⟩

end Sys2Proof.Machine
end

section
/-! PROOFS. The ports: the answers of a source, the payload bytes an answer emits, and the one Release() of an input (20_memory.md
R66, R69, R71). -/

namespace Sys2Proof.Machine

/-- Settles O15. -/
theorem sourceAnswersInOrder : Obligations.SourceAnswersInOrder := by
  constructor
  · intro s input p h hb
    exact s.inRead_byte input p _ hb (List.getElem?_eq_getElem h)
  · intro s input hb
    rw [s.inRead_term input _ hb (List.getElem?_eq_none (Nat.le_refl _))]
    cases input.term <;> rfl

/-! ### What an answer emits -/

/-- The payload bytes the engine emits on an answer: the byte itself, in phase PAY (R71). -/
def State.emitted (s : State) (a : Option Answer) : List Byte :=
  match s.phase, a with
  | .pay, some (.byte b) => [b]
  | _, _ => []

theorem State.emitted_byte_of_pay (s : State) (b : Byte) (h : s.phase = .pay) : s.emitted (some (.byte b)) = [b] := by
  simp [State.emitted, h]

theorem State.emitted_of_ne_pay (s : State) (a : Option Answer) (h : s.phase ≠ .pay) : s.emitted a = [] := by
  cases hp : s.phase <;> simp_all [State.emitted]

theorem State.emitted_of_not_byte (s : State) (a : Option Answer) (h : ∀ b, a ≠ some (.byte b)) : s.emitted a = [] := by
  unfold State.emitted
  split
  · exact absurd rfl (h _)
  · rfl

/-- From s to t the payload port takes the bytes `out`, and no other event is seen. -/
def State.Emits (s t : State) (out : List Byte) : Prop :=
  t.payloadOut = s.payloadOut ++ out ∧ t.history = s.history ++ out.map .outWrite

theorem State.emits_nil {s t : State} (hp : t.payloadOut = s.payloadOut) (hh : t.history = s.history) : s.Emits t [] := by
  simp [State.Emits, hp, hh]

section
variable (s : State) (b : Byte)

theorem State.emits_lenByte : s.Emits (s.lenByte b) [] := by
  by_cases h : s.idx = 7
  · rw [s.lenByte_last b h]; exact State.emits_nil rfl rfl
  · rw [s.lenByte_of_ne b h]; exact State.emits_nil rfl rfl

theorem State.emits_lcrcByte : s.Emits (s.lcrcByte b) [] := by
  by_cases h : s.idx = 3
  · rw [s.lcrcByte_last b h]; exact State.emits_nil rfl rfl
  · rw [s.lcrcByte_of_ne b h]; exact State.emits_nil rfl rfl

theorem State.emits_payByte : s.Emits (s.payByte b) [b] := by
  by_cases h : s.remaining - 1 = 0
  · rw [s.payByte_last b h]; exact ⟨rfl, rfl⟩
  · rw [s.payByte_of_ne b h]; exact ⟨rfl, rfl⟩

theorem State.emits_completeFrame : s.Emits s.completeFrame [] := by
  cases h : s.op with
  | verify => rw [s.completeFrame_verify h]; exact State.emits_nil rfl rfl
  | skip => rw [s.completeFrame_skip h]; exact State.emits_nil rfl rfl

theorem State.emits_pcrcByte : s.Emits (s.pcrcByte b) [] := by
  by_cases h : s.idx = 3
  · rw [s.pcrcByte_last b h]; exact State.emits_completeFrame _
  · rw [s.pcrcByte_of_ne b h]; exact State.emits_nil rfl rfl

/-- A byte is emitted exactly when it is a payload byte (R71). -/
theorem State.emits_onByte : s.Emits (s.onByte b) (s.emitted (some (.byte b))) := by
  rcases s.onByte_cases b with ⟨hp, h⟩ | ⟨hp, h⟩ | ⟨hp, h⟩ | ⟨hp, h⟩ | ⟨hp, h⟩ <;> rw [h]
  · rw [s.emitted_of_ne_pay _ (by simp [hp])]; exact State.emits_nil rfl rfl
  · rw [s.emitted_of_ne_pay _ (by simp [hp])]; exact State.emits_lenByte _ b
  · rw [s.emitted_of_ne_pay _ (by simp [hp])]; exact State.emits_lcrcByte _ b
  · rw [s.emitted_byte_of_pay b hp]; exact State.emits_payByte _ b
  · rw [s.emitted_of_ne_pay _ (by simp [hp])]; exact State.emits_pcrcByte _ b

theorem State.onByte_inState : (s.onByte b).inState = s.inState := by
  rcases s.onByte_effect b with h | ⟨_, _, h⟩
  · exact h.inState
  · simp [h, State.lastByteTaken]

end

/-! ### PAYLOAD_OUT -/

/-- PAYLOAD_OUT takes the byte emitted on an answer; the ends of a frame command leave it. -/
theorem State.onAnswer_payloadOut (s : State) (a : Answer) : (s.onAnswer a).payloadOut = s.payloadOut ++ s.emitted (some a) := by
  cases a with
  | byte b => exact (s.emits_onByte b).1
  | endOfInput =>
    rw [s.emitted_of_not_byte _ (by simp), List.append_nil]
    rcases s.onEnd_cases with ⟨_, _, h⟩ | ⟨_, h⟩ <;> simp only [State.onAnswer, h] <;> rfl
  | error => rw [s.emitted_of_not_byte _ (by simp), List.append_nil]; rfl

/-- What a busy block's engine step adds to PAYLOAD_OUT; nothing when nothing answers. -/
theorem engineStep_payloadOut (s t : State) (h : engineStep s = .next t) (hb : s.busy = true) :
    t.payloadOut = s.payloadOut ++ s.emitted s.inRead.1 := by
  obtain ⟨_, _, hr⟩ := s.inRead_frame
  rcases engineStep_cases s with ⟨hi, _⟩ | ⟨_, _, he⟩ | ⟨_, _, hn, he⟩ | ⟨a, _, _, ha, he⟩
  · simp [hb] at hi
  · simp [he] at h
  · rw [he] at h
    cases h
    rw [hn, s.emitted_of_not_byte _ (by simp), List.append_nil, hr]
  · rw [he] at h
    cases h
    rw [ha, State.onAnswer_payloadOut, hr]
    rfl

/-- The command that changes PAYLOAD_OUT is OPEN, which clears it (R150). -/
theorem State.perform_payloadOut (s : State) (i : Instr) (h : (s.perform i).payloadOut ≠ s.payloadOut) :
    i = .openInput ∧ (s.perform i).payloadOut = [] := by
  cases i with
  | openInput => exact ⟨rfl, rfl⟩
  | nextFrame => exact absurd rfl h
  | skipFrame => exact absurd rfl h
  | closeInput => exact absurd rfl h
  | cksInit => exact absurd rfl h
  | cksByte b => exact absurd rfl h

theorem State.Untouched.payloadOut {s t : State} (h : s.Untouched t) : t.payloadOut = s.payloadOut := by rw [h.eq]

/-- What changes PAYLOAD_OUT. -/
theorem step_payloadOut_changes (s t : State) (h : step s = .next t) (hne : t.payloadOut ≠ s.payloadOut) :
    (∃ rest, s.pending = .answer :: rest ∧ s.busy = true) ∨
    (∃ w rest, s.pending = .write 0x00 4 w :: rest ∧ decode w = .cmd .openInput ∧ t.payloadOut = []) ∨
    (∃ rest, s.pending = .reset :: rest ∧ t.payloadOut = []) := by
  rcases step_effect s t h with hu | ⟨w, rest, i, hp, hd, _, _, rfl⟩ | ⟨rest, hp, rfl⟩ | ⟨rest, _, hp, hb, _⟩
  · exact absurd hu.payloadOut hne
  · obtain ⟨rfl, ho⟩ := State.perform_payloadOut _ i hne
    exact .inr (.inl ⟨w, rest, hp, hd, ho⟩)
  · exact .inr (.inr ⟨rest, hp, rfl⟩)
  · exact .inl ⟨rest, hp, hb⟩

/-- The answer to the next transfer does not depend on the moves to come. -/
theorem State.inRead_answer_pending (s : State) (rest : List Move) :
    (State.inRead { s with pending := rest }).1 = s.inRead.1 := by
  unfold State.inRead
  cases s.binding with
  | notHeld => rfl
  | unconnected => rfl
  | source input pos => cases hs : sourceAnswer input pos <;> simp [hs]

/-- Settles O56. -/
theorem onlyPayloadBytesAreEmitted : Obligations.OnlyPayloadBytesAreEmitted := by
  refine ⟨fun s t rest hp hb h => ?_, fun s hb ho => ⟨_, exec_of_legal _ s hb ho, rfl⟩, step_payloadOut_changes⟩
  rw [step_answer s rest hp] at h
  have hout := engineStep_payloadOut _ t h hb
  rw [s.inRead_answer_pending rest] at hout
  exact hout

/-! ### Release() -/

/-- A Release() goes with leaving OPEN, other than to CLOSED, and no other (R69). -/
def State.ReleasesOnLeaving (s t : State) : Prop :=
  t.releaseCount
    = s.releaseCount + (if s.inState = .opened ∧ t.inState ≠ .opened ∧ t.inState ≠ .closed then 1 else 0)

/-- Taking the move that comes next releases nothing. -/
theorem State.ReleasesOnLeaving.of_pending {s t : State} {rest : List Move}
    (h : State.ReleasesOnLeaving { s with pending := rest } t) : s.ReleasesOnLeaving t :=
  h

/-- No Release() is owed while IN_STATE stays, nor on the way into OPEN or CLOSED. -/
theorem State.releasesOnLeaving_of_count_eq {s t : State} (hc : t.releaseCount = s.releaseCount)
    (hi : t.inState = s.inState ∨ t.inState = .opened ∨ t.inState = .closed) : s.ReleasesOnLeaving t := by
  have hstays : ¬ (s.inState = .opened ∧ t.inState ≠ .opened ∧ t.inState ≠ .closed) := by
    rintro ⟨ho, hno, hnc⟩
    rcases hi with hi | hi | hi
    · exact hno (hi.trans ho)
    · exact hno hi
    · exact hnc hi
  rw [State.ReleasesOnLeaving, if_neg hstays, hc, Nat.add_zero]

/-- The one Release() on the way out of OPEN. -/
theorem State.releasesOnLeaving_of_release {s t : State} (hh : t.history = s.history ++ [.release])
    (ho : s.inState = .opened) (hi : t.inState ≠ .opened ∧ t.inState ≠ .closed) : s.ReleasesOnLeaving t := by
  simp [State.ReleasesOnLeaving, State.releaseCount, hh, ho, hi]

/-- An event that is no Release() leaves their number. -/
theorem State.releaseCount_of_append {s t : State} {es : List Event} (hh : t.history = s.history ++ es)
    (hn : .release ∉ es) : t.releaseCount = s.releaseCount := by
  simp [State.releaseCount, hh, List.count_eq_zero_of_not_mem hn]

theorem State.releasesOnLeaving_raiseCmdError (s : State) (c : Rejection) : s.ReleasesOnLeaving (s.raiseCmdError c) :=
  State.releasesOnLeaving_of_count_eq (State.releaseCount_of_append rfl (by simp)) (.inl rfl)

/-- The ends of an input release it once, and a byte does not. -/
theorem State.releasesOnLeaving_onAnswer (s : State) (a : Answer) (ho : s.inState = .opened) :
    s.ReleasesOnLeaving (s.onAnswer a) := by
  cases a with
  | byte b =>
    exact State.releasesOnLeaving_of_count_eq (State.releaseCount_of_append (s.emits_onByte b).2 (by simp))
      (.inl (s.onByte_inState b))
  | endOfInput =>
    rcases s.onEnd_cases with ⟨_, _, h⟩ | ⟨_, h⟩ <;> simp only [State.onAnswer, h]
    · exact State.releasesOnLeaving_of_release rfl ho (by simp [State.cleanEnd])
    · exact State.releasesOnLeaving_of_release rfl ho (by simp [State.stopTruncated])
  | error => exact State.releasesOnLeaving_of_release rfl ho (by simp [State.onAnswer, State.stopUnreadable])

/-- CLOSE is the command that releases (R153). -/
theorem State.releasesOnLeaving_perform (s : State) (i : Instr) (hl : legalIn i s.inState) :
    s.ReleasesOnLeaving (s.perform i) := by
  cases i with
  | openInput => exact State.releasesOnLeaving_of_count_eq rfl (.inr (.inl rfl))
  | closeInput => exact State.releasesOnLeaving_of_release rfl hl (by simp [State.perform, State.performClose])
  | nextFrame => exact State.releasesOnLeaving_of_count_eq rfl (.inl rfl)
  | skipFrame => exact State.releasesOnLeaving_of_count_eq rfl (.inl rfl)
  | cksInit => exact State.releasesOnLeaving_of_count_eq rfl (.inl rfl)
  | cksByte b => exact State.releasesOnLeaving_of_count_eq rfl (.inl rfl)

/-- A command releases as its effect does; a rejected one does not. -/
theorem exec_releasesOnLeaving (i : Instr) (s t : State) (h : exec i s = .next t) : s.ReleasesOnLeaving t := by
  rcases exec_cases i s t h with ⟨_, rfl⟩ | ⟨_, rfl, _⟩ | ⟨_, rfl, ho, rfl⟩ | ⟨_, rfl, ho, rfl⟩ | ⟨_, rfl, ho, rfl⟩ |
    ⟨_, rfl, ho, rfl⟩ | ⟨_, rfl, rfl⟩ | ⟨b, _, rfl, rfl⟩
  · exact s.releasesOnLeaving_raiseCmdError _
  · exact s.releasesOnLeaving_raiseCmdError _
  · exact s.releasesOnLeaving_perform .openInput ho
  · exact s.releasesOnLeaving_perform .nextFrame ho
  · exact s.releasesOnLeaving_perform .skipFrame ho
  · exact s.releasesOnLeaving_perform .closeInput ho
  · exact s.releasesOnLeaving_perform .cksInit trivial
  · exact s.releasesOnLeaving_perform (.cksByte b) trivial

/-- A frame command runs only while OPEN, so that each end of the input leaves OPEN. -/
theorem engineStep_releasesOnLeaving (s t : State) (h : engineStep s = .next t)
    (hopen : s.busy = true → s.inState = .opened) : s.ReleasesOnLeaving t := by
  obtain ⟨_, _, hr⟩ := s.inRead_frame
  rcases engineStep_cases s with ⟨_, he⟩ | ⟨_, _, he⟩ | ⟨_, _, _, he⟩ | ⟨a, hb, _, _, he⟩ <;> rw [he] at h <;> cases h
  · exact State.releasesOnLeaving_of_count_eq rfl (.inl rfl)
  · rw [hr]; exact State.releasesOnLeaving_of_count_eq rfl (.inl rfl)
  · rw [hr]; exact State.releasesOnLeaving_onAnswer _ a (hopen hb)

/-- Settles O52, move by move; the invariant gives that a busy block's input is OPEN. -/
theorem releaseExactlyOnLeavingOpen : Obligations.ReleaseExactlyOnLeavingOpen := by
  intro s t hinv h
  change s.ReleasesOnLeaving t
  rcases step_cases s t h with ⟨_, rfl⟩ | ⟨_, _, i, _, _, he⟩ | ⟨_, _, c, _, _, rfl⟩ | ⟨_, _, _, _, _, _, _, rfl⟩ |
    ⟨_, _, _, _, _, rfl⟩ | ⟨_, _, _, _, rfl⟩ | ⟨_, _, rfl⟩ | ⟨_, _, he⟩
  · exact State.releasesOnLeaving_of_count_eq rfl (.inl rfl)
  · exact (exec_releasesOnLeaving i _ t he).of_pending
  · exact State.releasesOnLeaving_raiseCmdError _ c
  · exact State.releasesOnLeaving_of_count_eq rfl (.inl rfl)
  · exact State.releasesOnLeaving_of_count_eq (State.releaseCount_of_append rfl (by simp)) (.inl rfl)
  · exact State.releasesOnLeaving_of_count_eq rfl (.inl rfl)
  · exact State.releasesOnLeaving_of_count_eq (State.releaseCount_of_append rfl (by simp)) (.inr (.inr rfl))
  · exact (engineStep_releasesOnLeaving _ t he hinv.control.busy_open).of_pending

end Sys2Proof.Machine
end

section
/-! PROOFS. Encoding: each outcome of the decoder as a condition on a word's fields, the round trip with the encoder, and the two
rejections of a word that is no command (30_encoding.md R100 to R107). -/

namespace Sys2Proof.Machine

/-- The opcode table gives a command for the assigned opcodes and for no other (R101, R103). -/
theorem instrOf_eq_none_iff (opc imm8 : Byte) : instrOf opc imm8 = none ↔ opc ∉ assignedOpcodes := by
  unfold instrOf
  split_ifs <;> simp_all [assignedOpcodes]

/-- An opcode with an IMM8 it may carry names a command exactly when both are that command's own fields (R102). -/
theorem instrOf_eq_some_and_imm8_clear_iff (opc imm8 : Byte) (i : Instr) :
    instrOf opc imm8 = some i ∧ (opc = 0x11 ∨ imm8 = 0) ↔ opc = opcodeOf i ∧ imm8 = imm8Of i := by
  rw [instrOf_eq_some_iff, and_assoc]
  refine and_congr_right ?_
  rintro rfl
  cases i with
  | cksByte b => simpa [opcodeOf, imm8Of] using eq_comm
  | openInput => simp [opcodeOf, imm8Of]
  | nextFrame => simp [opcodeOf, imm8Of]
  | skipFrame => simp [opcodeOf, imm8Of]
  | closeInput => simp [opcodeOf, imm8Of]
  | cksInit => simp [opcodeOf, imm8Of]

/-- A word whose opcode is reserved is rejected whatever its other bits (R103). -/
theorem decode_of_not_assigned (w : Word) (h : (fieldsOf w).opc ∉ assignedOpcodes) : decode w = .reject .rsvdOpcode := by
  rw [← instrOf_eq_none_iff _ (fieldsOf w).imm8] at h
  rcases decode_cases w with ⟨hd, _⟩ | ⟨_, ⟨_, hi⟩, _⟩ | ⟨_, _, hi, _⟩
  · exact hd
  · cases h.symm.trans hi
  · cases h.symm.trans hi

/-- A word of an assigned opcode with a bit set that its command does not use is rejected (R104). -/
theorem decode_of_bits_set (w : Word) (ha : (fieldsOf w).opc ∈ assignedOpcodes)
    (hb : (fieldsOf w).rsvd ≠ 0 ∨ ((fieldsOf w).opc ≠ 0x11 ∧ (fieldsOf w).imm8 ≠ 0)) :
    decode w = .reject .rsvdBits := by
  rcases decode_cases w with ⟨_, hn⟩ | ⟨hd, _⟩ | ⟨_, _, _, hr, hm⟩
  · exact absurd ha ((instrOf_eq_none_iff _ _).1 hn)
  · exact hd
  · rcases hb with hb | ⟨ho, hb⟩
    · exact absurd hr hb
    · exact absurd (hm.resolve_left ho) hb

/-- A word decodes to a command exactly when its fields are that command's: its opcode, its IMM8 and RSVD = 0 (R105). -/
theorem decode_eq_cmd_iff (w : Word) (i : Instr) :
    decode w = .cmd i ↔ (fieldsOf w).opc = opcodeOf i ∧ (fieldsOf w).imm8 = imm8Of i ∧ (fieldsOf w).rsvd = 0 := by
  rw [← and_assoc, ← instrOf_eq_some_and_imm8_clear_iff]
  rcases decode_cases w with ⟨hd, hn⟩ | ⟨hd, _, hb⟩ | ⟨j, hd, hj, hr, hm⟩
  · simp [hd, hn]
  · rw [hd]
    refine iff_of_false (by simp) ?_
    rintro ⟨⟨_, hm⟩, hr⟩
    exact hb.elim (absurd hr) fun ⟨ho, hi⟩ => hm.elim ho hi
  · rw [hd, hj, Decoded.cmd.injEq, Option.some.injEq, and_iff_left hr, and_iff_left hm]

/-- Words with the same three fields are the same word, so that no bit lies outside the fields (R100). -/
theorem word_eq_of_fields_eq {v w : Word} (ho : (fieldsOf v).opc = (fieldsOf w).opc)
    (hi : (fieldsOf v).imm8 = (fieldsOf w).imm8) (hr : (fieldsOf v).rsvd = (fieldsOf w).rsvd) : v = w := by
  rw [← word_eq_fields v, ← word_eq_fields w, ho, hi, hr]

/-- The encoding is the one word that decodes to a command. -/
theorem decode_eq_cmd_iff_encode_eq (w : Word) (i : Instr) : decode w = .cmd i ↔ encode i = w := by
  rw [decode_eq_cmd_iff]
  constructor
  · rintro ⟨ho, hi, hr⟩
    exact word_eq_of_fields_eq (by simp [ho]) (by simp [hi]) (by simp [hr])
  · rintro rfl
    simp

/-- Every 8-bit operand fits IMM8 (R102). -/
theorem instr_wellFormed (i : Instr) : i.wellFormed = true := by
  cases i with
  | cksByte b => exact decide_eq_true (Nat.le_of_lt_succ b.isLt)
  | openInput => rfl
  | nextFrame => rfl
  | skipFrame => rfl
  | closeInput => rfl
  | cksInit => rfl

/-- Settles O1. -/
theorem decodeAndEncodeAgree : Obligations.DecodeAndEncodeAgree :=
  ⟨fun i _ => (decode_eq_cmd_iff_encode_eq _ i).2 rfl,
   fun w i h => ⟨instr_wellFormed i, (decode_eq_cmd_iff_encode_eq w i).1 h⟩⟩

/-- A write to CMD that the decoder rejects writes the error field and nothing else (60_exceptions.md R226). -/
theorem step_of_decode_reject (s : State) (w : Word) (rest : List Move) (c : Rejection)
    (hp : s.pending = .write 0x00 4 w :: rest) (hd : decode w = .reject c) :
    step s = .next (State.raiseCmdError { s with pending := rest } c) := by
  rw [step_writeCmd s w rest hp, hd]

/-- The three ranges of R103 hold no assigned opcode. -/
theorem not_assigned_of_reserved_range (opc : Byte)
    (h : opc.toNat = 0x00 ∨ (0x05 ≤ opc.toNat ∧ opc.toNat ≤ 0x0F) ∨ (0x12 ≤ opc.toNat ∧ opc.toNat ≤ 0xFF)) :
    opc ∉ assignedOpcodes := by
  intro ha
  have hrange : ∀ a ∈ assignedOpcodes, (0x01 ≤ a.toNat ∧ a.toNat ≤ 0x04) ∨ (0x10 ≤ a.toNat ∧ a.toNat ≤ 0x11) := by decide
  have := hrange opc ha
  omega

/-- Settles O3. -/
theorem reservedOpcodeIsRejected : Obligations.ReservedOpcodeIsRejected := fun s w rest hp hopc =>
  step_of_decode_reject s w rest .rsvdOpcode hp (decode_of_not_assigned w (not_assigned_of_reserved_range _ hopc))

/-- Settles O4. -/
theorem reservedBitsAreRejected : Obligations.ReservedBitsAreRejected := fun s w rest hp ha hb =>
  step_of_decode_reject s w rest .rsvdBits hp (decode_of_bits_set w ha hb)

/-- Settles O2: each word of R101 and R107 is the encoding of its command. -/
theorem specWordsDecode : Obligations.SpecWordsDecode := by
  have hword : ∀ (i : Instr) (w : Word), encode i = w → decode w = .cmd i :=
    fun i w => (decode_eq_cmd_iff_encode_eq w i).2
  have htable : decode (BitVec.ofNat 32 (0x0000FF11 % 2 ^ 32)) = .cmd (.cksByte 0xFF) := hword _ _ (by decide)
  exact ⟨hword _ _ (by decide), hword _ _ (by decide), hword _ _ (by decide), hword _ _ (by decide),
    hword _ _ (by decide), hword _ _ (by decide), by rw [decodeTableWord, htable]⟩

end Sys2Proof.Machine
end

section
/-! PROOFS. The checksum function: the rounds of the update are linear over XOR, only shift a register whose low end is clear, and
lose nothing, and neither does the mask (40_checksum.md R121 to R124, R128). -/

namespace Sys2Proof.Machine

/-! ### The mask -/

/-- Settles O32: the two shifts bring the high and the low part of the word to their places. -/
theorem rotationMovesBits : Obligations.RotationMovesBits := by
  intro c i hi
  rw [rotr32, BitVec.getLsbD_or, BitVec.getLsbD_ushiftRight, BitVec.getLsbD_shiftLeft]
  by_cases hlow : i < 17
  · have hmod : (i + 15) % 32 = 15 + i := by omega
    simp [hlow, hmod]
  · have hmod : (i + 15) % 32 = i - 17 := by omega
    have hout : c.getLsbD (15 + i) = false := c.getLsbD_of_ge _ (by omega)
    simp [hlow, hmod, hout, hi]

/-- rotl32(c, 15) moves every bit up by 15, the highest ones to the low end (R128). -/
theorem rotl15_getLsbD (c : Word) (i : Nat) (hi : i < 32) : (rotl15 c).getLsbD i = c.getLsbD ((i + 17) % 32) := by
  rw [rotl15, BitVec.getLsbD_or, BitVec.getLsbD_ushiftRight, BitVec.getLsbD_shiftLeft]
  by_cases hlow : i < 15
  · have hmod : (i + 17) % 32 = 17 + i := by omega
    simp [hlow, hmod]
  · have hmod : (i + 17) % 32 = i - 15 := by omega
    have hout : c.getLsbD (17 + i) = false := c.getLsbD_of_ge _ (by omega)
    simp [hlow, hmod, hout, hi]

theorem rotl15_rotr32 (c : Word) : rotl15 (rotr32 c 15) = c := by
  apply BitVec.eq_of_getLsbD_eq
  intro i hi
  have hturn : ((i + 17) % 32 + 15) % 32 = i := by omega
  rw [rotl15_getLsbD _ i hi, rotationMovesBits c _ (by omega), hturn]

theorem rotr32_rotl15 (m : Word) : rotr32 (rotl15 m) 15 = m := by
  apply BitVec.eq_of_getLsbD_eq
  intro i hi
  have hturn : ((i + 15) % 32 + 17) % 32 = i := by omega
  rw [rotationMovesBits _ i hi, rotl15_getLsbD m _ (by omega), hturn]

/-- Settles O33: the rotation and the addition are each undone. -/
theorem maskIsInvertible : Obligations.MaskIsInvertible := by
  constructor
  · intro c
    rw [mask, unmask, add_sub_cancel_left, rotl15_rotr32]
  · intro m
    rw [mask, unmask, rotr32_rotl15, add_sub_cancel]

theorem mask_injective : Function.Injective mask := Function.LeftInverse.injective maskIsInvertible.1

/-! ### One round of the update -/

/-- What a round adds to the shifted register: the polynomial, when a bit falls out (R121). -/
theorem crcRound_eq_xor (acc : Word) : crcRound acc = acc >>> 1 ^^^ (if acc.getLsbD 0 then crcPoly else 0) := by
  unfold crcRound
  split_ifs
  · rfl
  · exact BitVec.xor_zero.symm

theorem crcRound_xor (x y : Word) : crcRound (x ^^^ y) = crcRound x ^^^ crcRound y := by
  have hfeedback : (if (x ^^^ y).getLsbD 0 then crcPoly else 0) =
      (if x.getLsbD 0 then crcPoly else 0) ^^^ (if y.getLsbD 0 then crcPoly else 0) := by
    rw [BitVec.getLsbD_xor]
    cases x.getLsbD 0 <;> cases y.getLsbD 0 <;> simp
  rw [crcRound_eq_xor, crcRound_eq_xor, crcRound_eq_xor, hfeedback, BitVec.ushiftRight_xor_distrib]
  ac_rfl

/-- The highest bit of the polynomial keeps the bit that falls out. -/
theorem crcRound_getLsbD_31 (acc : Word) : (crcRound acc).getLsbD 31 = acc.getLsbD 0 := by
  have htop : crcPoly.getLsbD 31 = true := by decide
  rw [crcRound_eq_xor, BitVec.getLsbD_xor, BitVec.getLsbD_ushiftRight, acc.getLsbD_of_ge (1 + 31) (by omega)]
  cases acc.getLsbD 0 <;> simp [htop]

theorem crcRound_injective : Function.Injective crcRound := by
  intro x y h
  have hlow : x.getLsbD 0 = y.getLsbD 0 := by rw [← crcRound_getLsbD_31, ← crcRound_getLsbD_31, h]
  have hshift : x >>> 1 = y >>> 1 := by
    rw [crcRound_eq_xor, crcRound_eq_xor, hlow] at h
    exact (BitVec.xor_left_inj _).1 h
  apply BitVec.eq_of_getLsbD_eq
  intro i _
  cases i with
  | zero => exact hlow
  | succ k => simpa [Nat.add_comm] using congrArg (·.getLsbD k) hshift

/-! ### The eight rounds -/

theorem repeat_crcRound_xor (n : Nat) (x y : Word) :
    Nat.repeat crcRound n (x ^^^ y) = Nat.repeat crcRound n x ^^^ Nat.repeat crcRound n y := by
  induction n with
  | zero => rfl
  | succ n ih => rw [Nat.repeat, ih, crcRound_xor]; rfl

theorem repeat_crcRound_injective (n : Nat) : Function.Injective (Nat.repeat crcRound n) := by
  induction n with
  | zero => exact Function.injective_id
  | succ n ih => exact crcRound_injective.comp ih

/-- As long as only zeros fall out, the rounds only shift. -/
theorem repeat_crcRound_of_low_clear (n : Nat) (x : Word) (h : ∀ i, i < n → x.getLsbD i = false) :
    Nat.repeat crcRound n x = x >>> n := by
  induction n with
  | zero => simp [Nat.repeat]
  | succ n ih =>
    have hout : (x >>> n).getLsbD 0 = false := by simpa using h n (by omega)
    rw [Nat.repeat, ih fun i hi => h i (by omega), crcRound, hout, BitVec.shiftRight_add]
    rfl

/-! ### The update and the register -/

/-- A register is its lowest byte and the bits above it. -/
theorem lowByte_xor_shifted (acc : Word) : (acc.extractLsb' 0 8).setWidth 32 ^^^ (acc >>> 8) <<< 8 = acc := by
  apply BitVec.eq_of_getLsbD_eq
  intro i hi
  by_cases hlow : i < 8
  · simp [hlow, hi]
  · have hsum : 8 + (i - 8) = i := by omega
    simp [hlow, hi, hsum]

theorem crcUpd_zero (b : Byte) : crcUpd 0 b = Nat.repeat crcRound 8 (b.setWidth 32) :=
  congrArg (Nat.repeat crcRound 8) BitVec.zero_xor

/-- Settles O35: the bits above the lowest byte are shifted past all eight rounds, and the lowest byte meets the new one. -/
theorem tableDrivenUpdateAgrees : Obligations.TableDrivenUpdateAgrees := by
  intro acc b
  have hsplit : acc ^^^ b.setWidth 32 = (acc.extractLsb' 0 8 ^^^ b).setWidth 32 ^^^ (acc >>> 8) <<< 8 := by
    conv_lhs => rw [← lowByte_xor_shifted acc]
    rw [BitVec.setWidth_xor]
    ac_rfl
  have hback : (acc >>> 8) <<< 8 >>> 8 = acc >>> 8 := by
    apply BitVec.eq_of_getLsbD_eq
    intro i _
    simpa using BitVec.lt_of_getLsbD
  have hhigh : Nat.repeat crcRound 8 ((acc >>> 8) <<< 8) = acc >>> 8 :=
    (repeat_crcRound_of_low_clear 8 _ fun i hi => by simp [hi]).trans hback
  rw [crcUpd_zero, crcUpd, hsplit, repeat_crcRound_xor, hhigh]

theorem crcUpd_injective (b : Byte) : Function.Injective fun acc => crcUpd acc b :=
  fun _ _ h => (BitVec.xor_left_inj _).1 (repeat_crcRound_injective 8 h)

theorem crcUpd_byte_injective (acc : Word) : Function.Injective (crcUpd acc) := by
  intro b c h
  have hwide : b.setWidth 32 = c.setWidth 32 := (BitVec.xor_right_inj _).1 (repeat_crcRound_injective 8 h)
  simpa using congrArg (BitVec.setWidth 8) hwide

/-- Registers that differ stay different over any further bytes. -/
theorem crcFeed_injective (ys : List Byte) : Function.Injective fun acc => crcFeed acc ys := by
  induction ys with
  | nil => exact Function.injective_id
  | cons b ys ih => exact ih.comp (crcUpd_injective b)

theorem maskedChecksum_eq_iff (xs ys : List Byte) :
    maskedChecksum xs = maskedChecksum ys ↔ crcFeed crcInit xs = crcFeed crcInit ys :=
  mask_injective.eq_iff.trans (BitVec.xor_left_inj _)

/-- Settles O36: the differing byte makes the registers differ, and the bytes after it and the mask keep them so. -/
theorem singleByteChangeIsDetected : Obligations.SingleByteChangeIsDetected := by
  intro xs ys b c hbc h
  rw [maskedChecksum_eq_iff, crcFeed, crcFeed, List.foldl_append, List.foldl_append] at h
  exact hbc (crcUpd_byte_injective _ (crcFeed_injective ys h))

/-- Settles O34, by running R121 and R122 on the bytes of each vector. -/
theorem checksumVectors : Obligations.ChecksumVectors := by
  refine ⟨?_, ?_, ?_, ?_, ?_⟩ <;>
    simp [maskedChecksum, crc32c, crcFeed, crcUpd, Nat.repeat, crcRound, crcInit, crcPoly, mask, rotr32, maskDelta]

end Sys2Proof.Machine
end

section
/-! PROOFS. The commands of the Checksum Engine: what each writes, and the checksum of the bytes a run of them leaves
(40_checksum.md R125 to R127). -/

namespace Sys2Proof.Machine

/-- Settles O10: both commands are legal in every IN_STATE. -/
theorem checksumCommandsDriveTheAccumulator : Obligations.ChecksumCommandsDriveTheAccumulator := fun s b hb =>
  ⟨exec_of_legal .cksInit s hb trivial, exec_of_legal (.cksByte b) s hb trivial⟩

/-- A write of a command to CMD runs that command. -/
theorem step_wrCmd (s : State) (i : Instr) (rest : List Move) (hp : s.pending = wrCmd i :: rest) :
    step s = exec i { s with pending := rest } := by
  rw [step_writeCmd s (encode i) rest hp, (decode_eq_cmd_iff_encode_eq _ i).2 rfl]

/-- The block with this value in the standalone accumulator after an accepted command, and these moves to come. -/
def State.withChecksum (s : State) (acc : Word) (moves : List Move) : State :=
  { s with pending := moves, cmdErr := false, errCode := none, cksAcc := acc }

/-- CKS_RESULT is the mask of the accumulator after the final XOR (10_state.md R42). -/
theorem State.withChecksum_memRead (s : State) (acc : Word) (moves : List Move) :
    (s.withChecksum acc moves).memRead 0x58 4 = mask (acc ^^^ crcInit) :=
  State.memRead_listed _ _ .cksResult rfl rfl

theorem step_cksInit (s : State) (rest : List Move) (hb : s.busy = false) (hp : s.pending = wrCmd .cksInit :: rest) :
    step s = .next (s.withChecksum crcInit rest) :=
  (step_wrCmd s .cksInit rest hp).trans (checksumCommandsDriveTheAccumulator { s with pending := rest } 0 hb).1

theorem step_cksByte (s : State) (acc : Word) (b : Byte) (rest : List Move) (hb : s.busy = false) :
    step (s.withChecksum acc (wrCmd (.cksByte b) :: rest)) = .next (s.withChecksum (crcUpd acc b) rest) :=
  (step_wrCmd _ (.cksByte b) rest rfl).trans (checksumCommandsDriveTheAccumulator (s.withChecksum acc rest) b hb).2

/-- One CKS_BYTE per byte feeds the bytes to the accumulator, in order. -/
theorem run_cksBytes (s : State) (bytes : List Byte) (acc : Word) (rest : List Move) (hb : s.busy = false) :
    core.run bytes.length (s.withChecksum acc (bytes.map (fun b => wrCmd (.cksByte b)) ++ rest)) =
      .next (s.withChecksum (crcFeed acc bytes) rest) := by
  induction bytes generalizing acc with
  | nil => rfl
  | cons b bytes ih => exact (run_succ _ _ _ (step_cksByte s acc b _ hb)).trans (ih (crcUpd acc b))

/-- Settles O31. -/
theorem commandsComputeMaskedChecksum : Obligations.CommandsComputeMaskedChecksum := by
  intro s bytes rest hb hp
  refine ⟨s.withChecksum (crcFeed crcInit bytes) rest, ?_, s.withChecksum_memRead _ _, rfl⟩
  rw [Nat.add_comm, run_succ _ _ _ (step_cksInit s _ hb hp)]
  exact run_cksBytes s bytes crcInit rest hb

end Sys2Proof.Machine
end

section
/-! PROOFS. The Record Stream Reader move by move: what its commands do, what one answer of a connected source does in each phase,
and that no move meets a fault (41_frame_reader.md R150 to R168). -/

namespace Sys2Proof.Machine

/-! ### The commands -/

/-- A connected source is taken at its first byte, and the port is left empty. -/
theorem State.takeBinding_of_connected (s : State) (input : Input) (h : s.connected = some input) :
    s.takeBinding = { s with binding := .source input 0, connected := none } := by
  simp [State.takeBinding, h]

/-- Settles O6. -/
theorem openStartsFreshSummary : Obligations.OpenStartsFreshSummary := by
  intro s input hb ho hc
  refine ⟨_, exec_of_legal .openInput s hb ho, ?_⟩
  simp only [State.perform, State.performOpen, s.takeBinding_of_connected input hc]
  rfl

/-- Settles O8. -/
theorem nextAndSkipBeginAFrame : Obligations.NextAndSkipBeginAFrame := fun s hb ho =>
  ⟨exec_of_legal .nextFrame s hb ho, exec_of_legal .skipFrame s hb ho⟩

/-- Settles O9. -/
theorem closeAbandonsAndReleases : Obligations.CloseAbandonsAndReleases := fun s hb ho =>
  exec_of_legal .closeInput s hb ho

/-! ### One answer of a connected source -/

section
variable {s : State} {input : Input} {p : Nat} {rest : List Move} (hp : s.pending = .answer :: rest) (hb : s.busy = true)
  (hph : s.phase ≠ .idle) (hs : s.binding = .source input p)
include hp hb hph hs

/-- The source gives its next byte: it moves on, and the engine takes the byte (R66, R154). -/
theorem step_answer_byte {b : Byte} (hd : input.data[p]? = some b) :
    step s = .next (State.onByte { s with pending := rest, binding := .source input (p + 1) } b) := by
  rw [step_answer s rest hp]
  exact engineStep_byte _ input p b hb hph hs hd

/-- The source has no byte left: the engine takes its term (R66, R154). -/
theorem step_answer_term (hd : input.data[p]? = none) :
    step s = .next (State.onAnswer { s with pending := rest } (termAnswer input.term)) := by
  rw [step_answer s rest hp]
  exact engineStep_term _ input p hb hph hs hd

end

/-- The answer at the end of the data counts no byte (R156). -/
theorem State.onAnswer_termAnswer_streamOffset (s : State) (e : Term) :
    (s.onAnswer (termAnswer e)).streamOffset = s.streamOffset := by
  cases e with
  | error => rfl
  | endOfInput => rcases s.onEnd_cases with ⟨_, _, he⟩ | ⟨_, he⟩ <;> simp only [termAnswer, State.onAnswer, he] <;> rfl

/-- Settles O16; the count since OPEN is a clause of the invariant of O48. -/
theorem streamOffsetCountsBytes : Obligations.StreamOffsetCountsBytes := by
  constructor
  · intro s input p rest hp hb hph hs
    by_cases hlt : p < input.data.length
    · refine ⟨_, step_answer_byte hp hb hph hs (List.getElem?_eq_getElem hlt), fun _ => ?_, fun hle => by omega⟩
      exact ⟨State.onByte_streamOffset _ _, State.onByte_binding _ _⟩
    · refine ⟨_, step_answer_term hp hb hph hs (List.getElem?_eq_none (by omega)), fun h => by omega, fun _ => ?_⟩
      exact ⟨State.onAnswer_termAnswer_streamOffset _ _, State.onAnswer_termAnswer_binding _ _⟩
  · intro s input p hinv hs
    have ho := hinv.offset
    simp only [State.OffsetInv, hs] at ho
    exact ho.2

/-! ### A byte, phase by phase -/

section
variable (s : State) (b : Byte)

theorem State.onByte_of_len (h : s.phase = .len) :
    s.onByte b = State.lenByte { s with streamOffset := s.streamOffset + 1 } b := by
  simp [State.onByte, h]

theorem State.onByte_of_lcrc (h : s.phase = .lcrc) :
    s.onByte b = State.lcrcByte { s with streamOffset := s.streamOffset + 1 } b := by
  simp [State.onByte, h]

theorem State.onByte_of_pay (h : s.phase = .pay) :
    s.onByte b = State.payByte { s with streamOffset := s.streamOffset + 1 } b := by
  simp [State.onByte, h]

theorem State.onByte_of_pcrc (h : s.phase = .pcrc) :
    s.onByte b = State.pcrcByte { s with streamOffset := s.streamOffset + 1 } b := by
  simp [State.onByte, h]

end

section
variable {s : State} {input : Input} {p : Nat} {b : Byte} {rest : List Move} (hp : s.pending = .answer :: rest)
  (hb : s.busy = true) (hs : s.binding = .source input p) (hd : input.data[p]? = some b)
include hp hb hs hd

theorem step_answer_lenByte (hph : s.phase = .len) :
    step s = .next (State.lenByte { s with
      pending := rest, binding := .source input (p + 1), streamOffset := s.streamOffset + 1 } b) :=
  (step_answer_byte hp hb (by simp [hph]) hs hd).trans (congrArg _ (State.onByte_of_len _ b hph))

theorem step_answer_lcrcByte (hph : s.phase = .lcrc) :
    step s = .next (State.lcrcByte { s with
      pending := rest, binding := .source input (p + 1), streamOffset := s.streamOffset + 1 } b) :=
  (step_answer_byte hp hb (by simp [hph]) hs hd).trans (congrArg _ (State.onByte_of_lcrc _ b hph))

theorem step_answer_payByte (hph : s.phase = .pay) :
    step s = .next (State.payByte { s with
      pending := rest, binding := .source input (p + 1), streamOffset := s.streamOffset + 1 } b) :=
  (step_answer_byte hp hb (by simp [hph]) hs hd).trans (congrArg _ (State.onByte_of_pay _ b hph))

theorem step_answer_pcrcByte (hph : s.phase = .pcrc) :
    step s = .next (State.pcrcByte { s with
      pending := rest, binding := .source input (p + 1), streamOffset := s.streamOffset + 1 } b) :=
  (step_answer_byte hp hb (by simp [hph]) hs hd).trans (congrArg _ (State.onByte_of_pcrc _ b hph))

end

/-- Settles O17. -/
theorem lengthByteIsCollected : Obligations.LengthByteIsCollected := by
  intro s input p b rest hp hb hph hs hd
  rw [step_answer_lenByte hp hb hs hd hph]
  by_cases hi : s.idx = 7
  · simp only [State.lenByte_last, hi, if_true]
  · simp only [State.lenByte_of_ne, ne_eq, hi, not_false_eq_true, if_false, hph]

/-- Settles O18. -/
theorem checksumFieldBytesAreCollected : Obligations.ChecksumFieldBytesAreCollected := by
  intro s input p b rest hp hb hs hd
  constructor
  · intro hph
    rw [step_answer_lcrcByte hp hb hs hd hph]
    by_cases hi : s.idx = 3
    · simp only [State.lcrcByte_last, hi, if_true]
    · simp only [State.lcrcByte_of_ne, ne_eq, hi, not_false_eq_true, if_false, hph]
  · intro hph hi
    rw [step_answer_pcrcByte hp hb hs hd hph]
    simp only [State.pcrcByte_of_ne, ne_eq, hi, not_false_eq_true]

/-- Settles O19; that a byte remains in phase PAY is a clause of the invariant of O48. -/
theorem payloadByteIsEmittedAndCounted : Obligations.PayloadByteIsEmittedAndCounted := by
  constructor
  · intro s input p b rest hp hb hph hs hd
    rw [step_answer_payByte hp hb hs hd hph]
    by_cases hr : s.remaining - 1 = 0
    · simp only [State.payByte_last, hr, if_true, State.outWrite]
    · simp only [State.payByte_of_ne, ne_eq, hr, not_false_eq_true, if_false, hph, State.outWrite]
  · intro s hinv hph
    have hpos := (hinv.progress.pay_remaining hph).1
    bv_omega

/-- Settles O20. -/
theorem verifiedFrameCompletes : Obligations.VerifiedFrameCompletes := by
  intro s input p b rest hp hb hph hi hop hs hd
  rw [step_answer_pcrcByte hp hb hs hd hph]
  simp only [State.pcrcByte_last, State.completeFrame_verify, hi, hop, State.verifyAndCount, bne, beq_eq_decide, decide_not,
    ne_eq]
  rfl

/-! ### The end of the data, phase by phase -/

/-- Settles O22; that a busy block holds no verdict is the invariant of O48. -/
theorem endIsCleanOnlyAtAFrameBoundary : Obligations.EndIsCleanOnlyAtAFrameBoundary := by
  intro s input p rest hp hb hph hs hd ht
  have hstep := step_answer_term hp hb hph hs hd
  rw [ht] at hstep
  refine ⟨fun hstart => hstep.trans ?_, fun hmid => hstep.trans ?_, fun hinv => ?_⟩
  · simp only [termAnswer, State.onAnswer, State.onEnd, if_pos hstart]
    rfl
  · simp only [termAnswer, State.onAnswer, State.onEnd, if_neg hmid]
    rfl
  · obtain ⟨hbl, hbp, _⟩ := hinv.control.frameStatus_of_busy hb
    obtain ⟨_, hlc, hpc⟩ := hinv.progress.results_zero hph
    exact ⟨hbl, hbp, hlc, hpc⟩

/-- Settles O23. -/
theorem errorIsUnreadable : Obligations.ErrorIsUnreadable := by
  intro s input p rest hp hb hph hs hd ht
  rw [step_answer_term hp hb hph hs hd, ht]
  rfl

/-! ### No fault -/

/-- The one move that can stop with a fault is an answer that finds a busy engine in phase IDLE (R154). -/
theorem step_fault (s : State) (r : Fault) (h : step s = .fault r) : s.busy = true ∧ s.phase = .idle := by
  cases hp : s.pending with
  | nil => simp [step_nil s hp] at h
  | cons m rest =>
    cases m with
    | write off width v =>
      by_cases hc : off = 0 ∧ width = 4
      · obtain ⟨rfl, rfl⟩ := hc
        rw [step_writeCmd s v rest hp] at h
        cases hd : decode v with
        | cmd i =>
          obtain ⟨_, _, he, _⟩ := exec_next i { s with pending := rest }
          simp [hd, he] at h
        | reject c => simp [hd] at h
      · rw [step_writeIgnored s off width v rest hp hc] at h
        unfold hostWriteIgnored at h
        split at h <;> cases h
    | read off width =>
      rw [step_read s off width rest hp] at h
      unfold hostRead at h
      split at h <;> cases h
    | bind input =>
      rw [step_bind s input rest hp] at h
      unfold hostBind at h
      split at h <;> cases h
    | reset => simp [step_reset s rest hp] at h
    | answer =>
      rw [step_answer s rest hp] at h
      rcases engineStep_cases { s with pending := rest } with ⟨_, he⟩ | ⟨hb, hph, _⟩ | ⟨_, _, _, he⟩ | ⟨_, _, _, _, he⟩
      · simp [he] at h
      · exact ⟨hb, hph⟩
      · simp [he] at h
      · simp [he] at h

/-- Settles O49: PHASE is IDLE exactly when BUSY = 0, by the invariant of O48. -/
theorem invariantExcludesFaults : Obligations.InvariantExcludesFaults := by
  intro s r hinv h
  obtain ⟨hb, hph⟩ := step_fault s r h
  simp [hinv.control.idle_iff.mp hph] at hb

/-! ### Where a truncation stops -/

/-- How many bytes k of a frame of length L a truncation in each phase has received (R164). -/
def Phase.StopsAfter (k L : Nat) : Phase → Prop
  | .idle => False
  | .len => 1 ≤ k ∧ k ≤ 7
  | .lcrc => 8 ≤ k ∧ k ≤ 11
  | .pay => 12 ≤ k ∧ k ≤ 11 + L
  | .pcrc => 12 + L ≤ k ∧ k ≤ 15 + L

/-- A frame command inside a frame has received as many bytes as its phase says. -/
theorem State.stopsAfter_of_inside (s : State) (hc : s.ControlInv) (hi : s.ProgressInv) (hph : s.phase ≠ .idle)
    (hin : ¬ (s.phase = .len ∧ s.idx = 0)) (hl : s.length.toNat + 16 < 2 ^ 64) :
    s.phase.StopsAfter (s.streamOffset - s.frameStart).toNat s.length.toNat := by
  cases hp : s.phase with
  | idle => exact absurd hp hph
  | len =>
    have hne : s.idx ≠ 0 := fun h0 => hin ⟨hp, h0⟩
    simp only [Phase.StopsAfter, hi.received_len hp]
    bv_omega
  | lcrc =>
    have hle := hc.idx_le_of_lcrc hp
    simp only [Phase.StopsAfter, hi.received_lcrc hp]
    bv_omega
  | pay =>
    have hrem := hi.pay_remaining hp
    simp only [Phase.StopsAfter, hi.received_pay hp]
    bv_omega
  | pcrc =>
    have hle := hc.idx_le_of_pcrc hp
    simp only [Phase.StopsAfter, hi.received_pcrc hp]
    bv_omega

/-- An answer that leaves the outcome TRUNCATED is END inside a frame (R162). -/
theorem State.onAnswer_truncated (s : State) (a : Answer) (hn : s.outcome = .none)
    (ht : (s.onAnswer a).outcome = .truncated) : ¬ (s.phase = .len ∧ s.idx = 0) ∧ s.onAnswer a = s.stopTruncated := by
  cases a with
  | byte b =>
    rcases s.onByte_effect b with hk | ⟨_, _, he⟩
    · simp [State.onAnswer, hk.outcome, hn] at ht
    · simp [State.onAnswer, he] at ht
  | endOfInput =>
    rcases s.onEnd_cases with ⟨_, _, he⟩ | ⟨hin, he⟩
    · simp [State.onAnswer, he, State.cleanEnd] at ht
    · exact ⟨hin, he⟩
  | error => simp [State.onAnswer, State.stopUnreadable] at ht

theorem State.inRead_outcome (s : State) : s.inRead.2.outcome = s.outcome := by
  obtain ⟨_, _, h⟩ := s.inRead_frame; rw [h]

theorem State.inRead_phase (s : State) : s.inRead.2.phase = s.phase := by
  obtain ⟨_, _, h⟩ := s.inRead_frame; rw [h]

/-- Settles O51: a truncation stops in the phase it finds, and the invariant of O48 says how far that phase has read. -/
theorem truncationPositionFollowsFromStopPhase : Obligations.TruncationPositionFollowsFromStopPhase := by
  intro s t rest hinv hp hb h ht hl
  rw [step_answer s rest hp] at h
  have hnone := hinv.control.busy_none hb
  rcases engineStep_effect _ t h with hu | ⟨a, _, hph, _, rfl⟩
  · rw [hu.eq] at ht
    simp [hnone] at ht
  · have hc := State.inRead_control _ (hinv.of_pending rest).control
    have hi := State.inRead_progress _ (hinv.of_pending rest).progress
    obtain ⟨hin, he⟩ := State.onAnswer_truncated _ a (by rw [State.inRead_outcome, hnone]) ht
    rw [he] at hl ⊢
    exact State.stopsAfter_of_inside _ hc hi (by rwa [State.inRead_phase]) hin hl

/-! ### Every frame command ends -/

/-- The frame command in progress is over, with its outcome (R166). -/
def State.CommandEnded (s : State) : Prop := s.busy = false ∧ s.phase = .idle ∧ s.outcome ≠ .none

section
variable (s : State) (b : Byte) (hph : s.phase ≠ .idle)
include hph

theorem State.lenByte_phase_ne_idle : (s.lenByte b).phase ≠ .idle := by
  by_cases h : s.idx = 7
  · rw [s.lenByte_last b h]; simp
  · rw [s.lenByte_of_ne b h]; exact hph

theorem State.lcrcByte_phase_ne_idle : (s.lcrcByte b).phase ≠ .idle := by
  by_cases h : s.idx = 3
  · rw [s.lcrcByte_last b h]; dsimp only; split <;> simp
  · rw [s.lcrcByte_of_ne b h]; exact hph

theorem State.payByte_phase_ne_idle : (s.payByte b).phase ≠ .idle := by
  by_cases h : s.remaining - 1 = 0
  · rw [s.payByte_last b h]; simp
  · rw [s.payByte_of_ne b h]; exact hph

theorem State.pcrcByte_reads_or_ends (hb : s.busy = true) :
    ((s.pcrcByte b).busy = true ∧ (s.pcrcByte b).phase ≠ .idle) ∨ (s.pcrcByte b).CommandEnded := by
  by_cases h : s.idx = 3
  · exact .inr (by rw [s.pcrcByte_last b h]; simp [State.CommandEnded])
  · exact .inl (by rw [s.pcrcByte_of_ne b h]; exact ⟨hb, hph⟩)

/-- A byte leaves the engine in a phase of the frame, or completes the frame. -/
theorem State.onByte_reads_or_ends (hb : s.busy = true) :
    ((s.onByte b).busy = true ∧ (s.onByte b).phase ≠ .idle) ∨ (s.onByte b).CommandEnded := by
  rcases s.onByte_cases b with ⟨h, _⟩ | ⟨_, he⟩ | ⟨_, he⟩ | ⟨_, he⟩ | ⟨_, he⟩
  · exact absurd h hph
  · exact .inl (by rw [he, (State.stillReading_lenByte _ b).busy]; exact ⟨hb, State.lenByte_phase_ne_idle _ b hph⟩)
  · exact .inl (by rw [he, (State.stillReading_lcrcByte _ b).busy]; exact ⟨hb, State.lcrcByte_phase_ne_idle _ b hph⟩)
  · exact .inl (by rw [he, (State.stillReading_payByte _ b).busy]; exact ⟨hb, State.payByte_phase_ne_idle _ b hph⟩)
  · rw [he]; exact State.pcrcByte_reads_or_ends _ b hph hb

end

/-- The end of the data ends the command. -/
theorem State.onAnswer_termAnswer_ends (s : State) (e : Term) : (s.onAnswer (termAnswer e)).CommandEnded := by
  cases e with
  | error => simp [State.CommandEnded, termAnswer, State.onAnswer, State.stopUnreadable]
  | endOfInput =>
    rcases s.onEnd_cases with ⟨_, _, he⟩ | ⟨_, he⟩
    · simp [State.CommandEnded, termAnswer, State.onAnswer, he, State.cleanEnd]
    · simp [State.CommandEnded, termAnswer, State.onAnswer, he, State.stopTruncated]

/-- With k bytes left the command ends within k + 1 answers: each byte brings the end of the data nearer (R172). -/
theorem run_answers_ends (input : Input) (rest : List Move) (k : Nat) (s : State) (p : Nat) (hk : input.data.length - p = k)
    (hb : s.busy = true) (hph : s.phase ≠ .idle) (hs : s.binding = .source input p)
    (hp : s.pending = answers (k + 1) ++ rest) :
    ∃ n t, 1 ≤ n ∧ n ≤ k + 1 ∧ core.run n s = .next t ∧ t.CommandEnded ∧ t.pending = answers (k + 1 - n) ++ rest := by
  induction k generalizing s p with
  | zero =>
    have hstep := step_answer_term (rest := rest) hp hb hph hs (List.getElem?_eq_none (by omega))
    exact ⟨1, _, le_rfl, le_rfl, run_succ 0 _ _ hstep, State.onAnswer_termAnswer_ends _ _, State.onAnswer_pending _ _⟩
  | succ k ih =>
    have hlt : p < input.data.length := by omega
    have hstep := step_answer_byte (rest := answers (k + 1) ++ rest) hp hb hph hs (List.getElem?_eq_getElem hlt)
    have hpend := State.onAnswer_pending { s with pending := answers (k + 1) ++ rest, binding := .source input (p + 1) }
      (.byte input.data[p])
    rcases State.onByte_reads_or_ends { s with pending := answers (k + 1) ++ rest, binding := .source input (p + 1) }
      input.data[p] hph hb with ⟨hb', hph'⟩ | hend
    · obtain ⟨n, t, hn, hnk, hrun, hend, ht⟩ := ih _ (p + 1) (by omega) hb' hph' (State.onByte_binding _ _) hpend
      refine ⟨n + 1, t, by omega, by omega, (run_succ n _ _ hstep).trans hrun, hend, ?_⟩
      rw [ht, Nat.add_sub_add_right]
    · exact ⟨1, _, le_rfl, by omega, run_succ 0 _ _ hstep, hend, hpend⟩

/-- Settles O30, by induction on the bytes that remain. -/
theorem frameCommandEnds : Obligations.FrameCommandEnds := by
  intro s input p rest hb hph hs hp
  obtain ⟨n, t, hn, hnk, hrun, ⟨hbusy, hidle, hout⟩, ht⟩ := run_answers_ends input rest _ s p rfl hb hph hs hp
  exact ⟨n, t, hn, hnk, hrun, hbusy, hidle, hout, ht⟩

end Sys2Proof.Machine
end

section
/-! PROOFS. A frame in progress as a function of the bytes received: what a frame command has done before each byte of a
frame, and so after a whole frame or at the end of an input that holds none (30_encoding.md R90 to R95; 41_frame_reader.md R155 to
R168). -/

namespace Sys2Proof.Machine

/-! ### The fields of a sequence of bytes that grows by one -/

/-- The n bytes at an offset, when one more byte comes. -/
theorem window_concat (r : List Byte) (b : Byte) (off n : Nat) :
    ((r ++ [b]).drop off).take n =
      (r.drop off).take n ++ (if off ≤ r.length ∧ r.length < off + n then [b] else []) := by
  by_cases ho : off ≤ r.length
  · rw [List.drop_append_of_le_length ho, List.take_append, List.length_drop]
    by_cases hn : r.length < off + n
    · rw [if_pos ⟨ho, hn⟩, List.take_of_length_le (l := [b]) (by simp; omega)]
    · rw [if_neg (by omega), show n - (r.length - off) = 0 by omega, List.take_zero]
  · rw [if_neg (by omega), List.drop_eq_nil_of_le (by simp; omega), List.drop_eq_nil_of_le (by omega), List.append_nil]

/-- A field at an offset takes the byte that comes in its lane. -/
theorem le_window_concat_of_mem (w : Nat) (r : List Byte) (b : Byte) (off n : Nat) (h : off ≤ r.length ∧ r.length < off + n) :
    le w (((r ++ [b]).drop off).take n) = placeByte (le w ((r.drop off).take n)) (r.length - off) b := by
  rw [window_concat, if_pos h, ← placeByte_le, List.length_take, List.length_drop, Nat.min_eq_right (by omega)]

/-- A byte outside a field leaves it. -/
theorem window_concat_of_not_mem (r : List Byte) (b : Byte) (off n : Nat) (h : ¬ (off ≤ r.length ∧ r.length < off + n)) :
    ((r ++ [b]).drop off).take n = (r.drop off).take n := by
  rw [window_concat, if_neg h, List.append_nil]

/-- The length_checksum field of a frame, as far as it has come. -/
def lengthChecksumField (r : List Byte) : Word := le 32 ((r.drop 8).take 4)

/-- The payload of a frame, as far as it has come. -/
def payloadField (r : List Byte) : List Byte := (r.drop 12).take (lengthField r).toNat

/-- The payload_checksum field of a frame, as far as it has come. -/
def payloadChecksumField (r : List Byte) : Word := le 32 ((r.drop (12 + (lengthField r).toNat)).take 4)

theorem lengthField_concat_of_lt (r : List Byte) (b : Byte) (h : r.length < 8) :
    lengthField (r ++ [b]) = placeByte (lengthField r) r.length b :=
  le_window_concat_of_mem 64 r b 0 8 (by omega)

/-- Once the 8 length bytes are there, what follows leaves the length. -/
theorem lengthField_append (r bytes : List Byte) (h : 8 ≤ r.length) : lengthField (r ++ bytes) = lengthField r := by
  rw [lengthField, List.take_append_of_le_length h]; rfl

theorem lengthChecksumField_of_le (r : List Byte) (h : r.length ≤ 8) : lengthChecksumField r = 0 := by
  rw [lengthChecksumField, List.drop_eq_nil_of_le h, List.take_nil]; rfl

theorem lengthChecksumField_concat_of_mem (r : List Byte) (b : Byte) (h : 8 ≤ r.length ∧ r.length < 12) :
    lengthChecksumField (r ++ [b]) = placeByte (lengthChecksumField r) (r.length - 8) b :=
  le_window_concat_of_mem 32 r b 8 4 h

theorem lengthChecksumField_concat_of_not_mem (r : List Byte) (b : Byte) (h : ¬ (8 ≤ r.length ∧ r.length < 12)) :
    lengthChecksumField (r ++ [b]) = lengthChecksumField r :=
  congrArg (le 32) (window_concat_of_not_mem r b 8 4 h)

theorem payloadField_of_le (r : List Byte) (h : r.length ≤ 12) : payloadField r = [] := by
  rw [payloadField, List.drop_eq_nil_of_le h, List.take_nil]

theorem length_payloadField (r : List Byte) : (payloadField r).length = min (lengthField r).toNat (r.length - 12) := by
  rw [payloadField, List.length_take, List.length_drop]

theorem payloadField_concat_of_mem (r : List Byte) (b : Byte)
    (h : 12 ≤ r.length ∧ r.length < 12 + (lengthField r).toNat) : payloadField (r ++ [b]) = payloadField r ++ [b] := by
  rw [payloadField, lengthField_append r [b] (by omega), window_concat, if_pos h]; rfl

theorem payloadField_concat_of_le (r : List Byte) (b : Byte) (h : 12 + (lengthField r).toNat ≤ r.length) :
    payloadField (r ++ [b]) = payloadField r := by
  rw [payloadField, lengthField_append r [b] (by omega), window_concat_of_not_mem r b _ _ (by omega)]; rfl

theorem payloadChecksumField_of_le (r : List Byte) (h : r.length ≤ 12 + (lengthField r).toNat) :
    payloadChecksumField r = 0 := by
  rw [payloadChecksumField, List.drop_eq_nil_of_le h, List.take_nil]; rfl

theorem payloadChecksumField_concat_of_mem (r : List Byte) (b : Byte)
    (h : 12 + (lengthField r).toNat ≤ r.length ∧ r.length < 16 + (lengthField r).toNat) :
    payloadChecksumField (r ++ [b]) = placeByte (payloadChecksumField r) (r.length - (12 + (lengthField r).toNat)) b := by
  rw [payloadChecksumField, lengthField_append r [b] (by omega), le_window_concat_of_mem 32 r b _ 4 (by omega)]; rfl

/-! ### Whole frames -/

/-- A sequence as long as the frame its length field asks for holds that frame's four fields (R90, R94, R95). -/
theorem parseFrame_eq (r : List Byte) :
    parseFrame r = if r.length < 16 + (lengthField r).toNat then none
      else some ⟨lengthField r, lengthChecksumField r, payloadField r, payloadChecksumField r⟩ :=
  if_congr (by rw [frameSize]; omega) rfl rfl

theorem parseFrame_eq_none_iff (r : List Byte) : parseFrame r = none ↔ r.length < 16 + (lengthField r).toNat := by
  rw [parseFrame_eq]
  by_cases h : r.length < 16 + (lengthField r).toNat
  · simp [h]
  · simp [h]

theorem parseFrame_eq_some_iff (r : List Byte) (f : Frame) :
    parseFrame r = some f ↔ 16 + (lengthField r).toNat ≤ r.length ∧
      ⟨lengthField r, lengthChecksumField r, payloadField r, payloadChecksumField r⟩ = f := by
  rw [parseFrame_eq]
  by_cases h : r.length < 16 + (lengthField r).toNat
  · simp [h]
  · simp [h, Nat.le_of_not_lt h]

/-- What begins a sequence with no whole frame holds none. -/
theorem parseFrame_none_of_append (r bytes : List Byte) (h : parseFrame (r ++ bytes) = none) : parseFrame r = none := by
  rw [parseFrame_eq_none_iff] at h ⊢
  by_cases h8 : 8 ≤ r.length
  · rw [lengthField_append r bytes h8, List.length_append] at h
    omega
  · omega

/-! ### A frame in progress -/

/-- The phase of a frame of length L after k bytes (R44). -/
def phaseAfter (k L : Nat) : Phase :=
  if k < 8 then .len else if k < 12 then .lcrc else if k < 12 + L then .pay else .pcrc

/-- How many bytes of its phase a frame of length L has after k bytes (R44). -/
def idxAfter (k L : Nat) : Nat :=
  if k < 8 then k else if k < 12 then k - 8 else if k < 12 + L then 0 else k - (12 + L)

/-- What a frame command of kind op feeds: NEXT the bytes, SKIP none (R157, R159, 42_fast_path.md R200). -/
def fedBy (op : FrameOp) (bytes : List Byte) : Word := if op = .verify then crcFeed crcInit bytes else crcInit

theorem fedBy_concat (op : FrameOp) (bytes : List Byte) (b : Byte) :
    fedBy op (bytes ++ [b]) = if op = .verify then crcUpd (fedBy op bytes) b else fedBy op bytes := by
  cases op <;> simp [fedBy, crcFeed]

/-- s after it has accepted a frame command of kind op and received the bytes r, which hold no whole frame. -/
def State.reading (s : State) (op : FrameOp) (r : List Byte) : State :=
  { s.frameBegin op with
    streamOffset := s.streamOffset + BitVec.ofNat 64 r.length
    phase := phaseAfter r.length (lengthField r).toNat
    idx := BitVec.ofNat 3 (idxAfter r.length (lengthField r).toNat)
    lbuf := lengthField r
    length := if r.length < 8 then 0 else lengthField r
    remaining := if r.length < 8 then 0 else lengthField r - BitVec.ofNat 64 (payloadField r).length
    lenAcc := fedBy op (r.take 8)
    lcs := lengthChecksumField r
    lenCksumStored := if r.length < 12 then 0 else lengthChecksumField r
    payAcc := fedBy op (payloadField r)
    payloadOut := s.payloadOut ++ payloadField r
    history := s.history ++ (payloadField r).map .outWrite
    pcs := payloadChecksumField r }

/-- Before the first byte there is what frame_begin(op) leaves. -/
theorem State.reading_nil (s : State) (op : FrameOp) : s.reading op [] = s.frameBegin op := by
  simp [State.reading, phaseAfter, idxAfter, lengthField, lengthChecksumField, payloadChecksumField, payloadField, fedBy,
    crcFeed, le, State.frameBegin]

theorem take_eight_concat (r : List Byte) (b : Byte) (h : 8 ≤ r.length) : (r ++ [b]).take 8 = r.take 8 :=
  List.take_append_of_le_length h

section
variable (s : State) (op : FrameOp) (r : List Byte)

theorem State.reading_of_len (h : r.length < 8) :
    s.reading op r = { s.frameBegin op with
      streamOffset := s.streamOffset + BitVec.ofNat 64 r.length
      op := op, idx := BitVec.ofNat 3 r.length, lbuf := lengthField r, lenAcc := fedBy op r } := by
  have hl := lengthChecksumField_of_le r (by omega)
  have ht : r.take 8 = r := List.take_of_length_le (by omega)
  simp [State.reading, phaseAfter, idxAfter, h, hl, ht, payloadField_of_le r (by omega),
    payloadChecksumField_of_le r (by omega), show r.length < 12 by omega, fedBy, crcFeed, State.frameBegin]

theorem State.reading_of_lcrc (h : 8 ≤ r.length ∧ r.length < 12) :
    s.reading op r = { s.frameBegin op with
      streamOffset := s.streamOffset + BitVec.ofNat 64 r.length
      phase := .lcrc, idx := BitVec.ofNat 3 (r.length - 8)
      lbuf := lengthField r, length := lengthField r, remaining := lengthField r, lenAcc := fedBy op (r.take 8)
      lcs := lengthChecksumField r } := by
  simp [State.reading, phaseAfter, idxAfter, h, payloadField_of_le r (by omega), show ¬ r.length < 8 by omega,
    payloadChecksumField_of_le r (by omega), fedBy, crcFeed, State.frameBegin]

theorem State.reading_of_pay (h : 12 ≤ r.length ∧ r.length < 12 + (lengthField r).toNat) :
    s.reading op r = { s.frameBegin op with
      streamOffset := s.streamOffset + BitVec.ofNat 64 r.length
      op := op, phase := .pay, idx := 0
      lbuf := lengthField r, length := lengthField r, lenAcc := fedBy op (r.take 8)
      lcs := lengthChecksumField r, lenCksumStored := lengthChecksumField r
      remaining := lengthField r - BitVec.ofNat 64 (r.length - 12)
      payAcc := fedBy op (payloadField r)
      payloadOut := s.payloadOut ++ payloadField r, history := s.history ++ (payloadField r).map .outWrite } := by
  have hn : min (lengthField r).toNat (r.length - 12) = r.length - 12 := by omega
  simp [State.reading, phaseAfter, idxAfter, h, show ¬ r.length < 8 by omega, show ¬ r.length < 12 by omega,
    payloadChecksumField_of_le r (by omega), length_payloadField, hn, State.frameBegin]

theorem State.reading_of_pcrc (h : 12 + (lengthField r).toNat ≤ r.length) :
    s.reading op r = { s.frameBegin op with
      streamOffset := s.streamOffset + BitVec.ofNat 64 r.length
      phase := .pcrc, idx := BitVec.ofNat 3 (r.length - (12 + (lengthField r).toNat))
      lbuf := lengthField r, length := lengthField r, lenAcc := fedBy op (r.take 8)
      lcs := lengthChecksumField r, lenCksumStored := lengthChecksumField r
      remaining := 0
      payAcc := fedBy op (payloadField r)
      payloadOut := s.payloadOut ++ payloadField r, history := s.history ++ (payloadField r).map .outWrite
      pcs := payloadChecksumField r } := by
  have hn : min (lengthField r).toNat (r.length - 12) = (lengthField r).toNat := by omega
  simp [State.reading, phaseAfter, idxAfter, show ¬ r.length < 8 by omega, show ¬ r.length < 12 by omega,
    show ¬ r.length < 12 + (lengthField r).toNat by omega, length_payloadField, hn, State.frameBegin]

end

/-! ### One more byte -/

/-- The count of a 3-bit index below 8. -/
theorem toNat_idx (k : Nat) (h : k < 8) : (BitVec.ofNat 3 k).toNat = k := by
  rw [BitVec.toNat_ofNat, Nat.mod_eq_of_lt h]

theorem idx_eq_iff (k n : Nat) (hk : k < 8) (hn : n < 8) : BitVec.ofNat 3 k = BitVec.ofNat 3 n ↔ k = n := by
  rw [← BitVec.toNat_inj, toNat_idx k hk, toNat_idx n hn]

section
variable (s : State) (op : FrameOp) (r : List Byte) (b : Byte)

theorem State.onByte_reading_of_len (h : r.length < 7) : (s.reading op r).onByte b = s.reading op (r ++ [b]) := by
  have hne : BitVec.ofNat 3 r.length ≠ 7 := (idx_eq_iff r.length 7 (by omega) (by omega)).not.mpr (by omega)
  rw [s.reading_of_len op r (by omega), State.onByte_of_len _ b rfl, State.lenByte_of_ne _ b hne,
    s.reading_of_len op (r ++ [b]) (by simp; omega)]
  simp [toNat_idx r.length (by omega), lengthField_concat_of_lt r b (by omega), fedBy_concat, BitVec.ofNat_add, add_assoc]

theorem State.onByte_reading_of_len_last (h : r.length = 7) : (s.reading op r).onByte b = s.reading op (r ++ [b]) := by
  have hl := lengthChecksumField_of_le (r ++ [b]) (by simp [h])
  have hr : r.take 8 = r := List.take_of_length_le (by omega)
  rw [s.reading_of_len op r (by omega), State.onByte_of_len _ b rfl, State.lenByte_last _ b (by simp [h]),
    s.reading_of_lcrc op (r ++ [b]) (by simp [h])]
  simp [h, hl, hr, lengthField_concat_of_lt r b (by omega), List.take_append, fedBy_concat, add_assoc]

theorem State.onByte_reading_of_lcrc (h : 8 ≤ r.length ∧ r.length < 11) :
    (s.reading op r).onByte b = s.reading op (r ++ [b]) := by
  have hne : BitVec.ofNat 3 (r.length - 8) ≠ 3 := (idx_eq_iff (r.length - 8) 3 (by omega) (by omega)).not.mpr (by omega)
  have hk : r.length + 1 - 8 = r.length - 8 + 1 := by omega
  rw [s.reading_of_lcrc op r (by omega), State.onByte_of_lcrc _ b rfl, State.lcrcByte_of_ne _ b hne,
    s.reading_of_lcrc op (r ++ [b]) (by simp; omega)]
  simp [hk, toNat_idx (r.length - 8) (by omega), lengthField_append r [b] h.1, take_eight_concat r b h.1,
    lengthChecksumField_concat_of_mem r b (by omega), BitVec.ofNat_add, add_assoc]

theorem State.onByte_reading_of_lcrc_last (h : r.length = 11) : (s.reading op r).onByte b = s.reading op (r ++ [b]) := by
  have hp : payloadField (r ++ [b]) = [] := payloadField_of_le _ (by simp [h])
  have hl := lengthField_append r [b] (by omega)
  have hc := lengthChecksumField_concat_of_mem r b (by omega)
  have hz : payloadChecksumField (r ++ [b]) = 0 := payloadChecksumField_of_le _ (by simp [h])
  rw [s.reading_of_lcrc op r (by omega), State.onByte_of_lcrc _ b rfl, State.lcrcByte_last _ b (by simp [h])]
  by_cases h0 : lengthField r = 0#64
  · rw [s.reading_of_pcrc op (r ++ [b]) (by simp [h, hl, h0])]
    simp [h, h0, hp, hl, hc, hz, take_eight_concat r b (by omega), add_assoc, fedBy, crcFeed]
  · have hpos : 0 < (lengthField r).toNat := by bv_omega
    rw [s.reading_of_pay op (r ++ [b]) (by simp [h, hl]; omega)]
    simp [h, h0, hp, hl, hc, take_eight_concat r b (by omega), add_assoc, fedBy, crcFeed]

theorem State.onByte_reading_of_pay (h : 12 ≤ r.length ∧ r.length + 1 < 12 + (lengthField r).toNat) :
    (s.reading op r).onByte b = s.reading op (r ++ [b]) := by
  have hl := lengthField_append r [b] (by omega)
  have hc := lengthChecksumField_concat_of_not_mem r b (by omega)
  have hp := payloadField_concat_of_mem r b (by omega)
  have hk : r.length + 1 - 12 = r.length - 12 + 1 := by omega
  have hrem : lengthField r - BitVec.ofNat 64 (r.length - 12) - 1 ≠ 0 := by bv_omega
  rw [s.reading_of_pay op r (by omega), State.onByte_of_pay _ b rfl, State.payByte_of_ne _ b hrem,
    s.reading_of_pay op (r ++ [b]) (by simp [hl]; omega)]
  simp [hl, hc, hp, hk, take_eight_concat r b (by omega), BitVec.ofNat_add, add_assoc, State.outWrite, fedBy_concat,
    sub_sub]

theorem State.onByte_reading_of_pay_last (h : 12 ≤ r.length ∧ r.length + 1 = 12 + (lengthField r).toNat) :
    (s.reading op r).onByte b = s.reading op (r ++ [b]) := by
  have hl := lengthField_append r [b] (by omega)
  have hc := lengthChecksumField_concat_of_not_mem r b (by omega)
  have hp := payloadField_concat_of_mem r b (by omega)
  have hz : payloadChecksumField (r ++ [b]) = 0 := payloadChecksumField_of_le _ (by simp [hl]; omega)
  have hk : r.length + 1 - (12 + (lengthField r).toNat) = 0 := by omega
  have hrem : lengthField r - BitVec.ofNat 64 (r.length - 12) - 1#64 = 0#64 := by bv_omega
  rw [s.reading_of_pay op r (by omega), State.onByte_of_pay _ b rfl, State.payByte_last _ b hrem,
    s.reading_of_pcrc op (r ++ [b]) (by simp [hl]; omega)]
  simp [hl, hc, hp, hz, hk, take_eight_concat r b (by omega), BitVec.ofNat_add, add_assoc, State.outWrite, fedBy_concat,
    hrem]

theorem State.onByte_reading_of_pcrc
    (h : 12 + (lengthField r).toNat ≤ r.length ∧ r.length + 1 < 16 + (lengthField r).toNat) :
    (s.reading op r).onByte b = s.reading op (r ++ [b]) := by
  have hl := lengthField_append r [b] (by omega)
  have hc := lengthChecksumField_concat_of_not_mem r b (by omega)
  have hp := payloadField_concat_of_le r b (by omega)
  have hz := payloadChecksumField_concat_of_mem r b (by omega)
  have hk : r.length + 1 - (12 + (lengthField r).toNat) = r.length - (12 + (lengthField r).toNat) + 1 := by omega
  have hne : BitVec.ofNat 3 (r.length - (12 + (lengthField r).toNat)) ≠ 3 :=
    (idx_eq_iff _ 3 (by omega) (by omega)).not.mpr (by omega)
  rw [s.reading_of_pcrc op r (by omega), State.onByte_of_pcrc _ b rfl, State.pcrcByte_of_ne _ b hne,
    s.reading_of_pcrc op (r ++ [b]) (by simp [hl]; omega)]
  simp [hl, hc, hp, hz, hk, toNat_idx (r.length - (12 + (lengthField r).toNat)) (by omega),
    take_eight_concat r b (by omega), BitVec.ofNat_add, add_assoc]

/-- One more byte of a frame, short of its last, is one more byte read (R157 to R160). -/
theorem State.onByte_reading (h : parseFrame (r ++ [b]) = none) : (s.reading op r).onByte b = s.reading op (r ++ [b]) := by
  rw [parseFrame_eq_none_iff, List.length_append, List.length_singleton] at h
  by_cases h8 : r.length < 8
  · by_cases h7 : r.length = 7
    · exact s.onByte_reading_of_len_last op r b h7
    · exact s.onByte_reading_of_len op r b (by omega)
  · rw [lengthField_append r [b] (by omega)] at h
    by_cases h12 : r.length < 12
    · by_cases h11 : r.length = 11
      · exact s.onByte_reading_of_lcrc_last op r b h11
      · exact s.onByte_reading_of_lcrc op r b (by omega)
    · rcases Nat.lt_trichotomy (r.length + 1) (12 + (lengthField r).toNat) with hlt | heq | hgt
      · exact s.onByte_reading_of_pay op r b ⟨by omega, hlt⟩
      · exact s.onByte_reading_of_pay_last op r b ⟨by omega, heq⟩
      · exact s.onByte_reading_of_pcrc op r b ⟨by omega, h⟩

end

/-! ### The run of a frame command -/

theorem phaseAfter_ne_idle (k L : Nat) : phaseAfter k L ≠ .idle := by
  unfold phaseAfter
  split_ifs <;> simp

/-- s with its source at this position and these moves to come. -/
def State.asking (s : State) (input : Input) (p : Nat) (moves : List Move) : State :=
  { s with binding := .source input p, pending := moves }

/-- The command that begins a frame of this kind (R151, 42_fast_path.md R200). -/
def frameCommand : FrameOp → Instr
  | .verify => .nextFrame
  | .skip => .skipFrame

section
variable {s : State} {input : Input} {p : Nat} {op : FrameOp} {moves : List Move}

theorem step_frameCommand (hb : s.busy = false) (ho : s.inState = .opened) (hs : s.binding = .source input p)
    (hp : s.pending = wrCmd (frameCommand op) :: moves) : step s = .next ((s.asking input p moves).reading op []) := by
  rw [step_wrCmd s _ _ hp, State.reading_nil, State.asking, ← hs]
  cases op with
  | verify => exact exec_of_legal .nextFrame _ hb ho
  | skip => exact exec_of_legal .skipFrame _ hb ho

theorem step_reading_byte (s : State) (op : FrameOp) (r : List Byte) {b : Byte} (hd : input.data[p]? = some b) :
    step ((s.asking input p (.answer :: moves)).reading op r) =
      .next (((s.asking input (p + 1) moves).reading op r).onByte b) :=
  step_answer_byte rfl rfl (phaseAfter_ne_idle _ _) rfl hd

theorem step_reading_term (s : State) (op : FrameOp) (r : List Byte) (hd : input.data[p]? = none) :
    step ((s.asking input p (.answer :: moves)).reading op r) =
      .next (((s.asking input p moves).reading op r).onAnswer (termAnswer input.term)) :=
  step_answer_term rfl rfl (phaseAfter_ne_idle _ _) rfl hd

/-- The engine reads the bytes that come as long as they do not complete the frame, one answer each. -/
theorem run_reading (s : State) (op : FrameOp) (bytes more r : List Byte) (p : Nat)
    (hd : input.data.drop p = bytes ++ more) (hn : parseFrame (r ++ bytes) = none) :
    core.run bytes.length ((s.asking input p (answers bytes.length ++ moves)).reading op r) =
      .next ((s.asking input (p + bytes.length) moves).reading op (r ++ bytes)) := by
  induction bytes generalizing r p with
  | nil => rw [List.append_nil]; rfl
  | cons b bytes ih =>
    have hb : input.data[p]? = some b := by
      rw [← List.head?_drop, hd]; rfl
    have hd' : input.data.drop (p + 1) = bytes ++ more := by
      rw [← List.tail_drop, hd]; rfl
    have hr : r ++ b :: bytes = (r ++ [b]) ++ bytes := by simp
    rw [hr] at hn ⊢
    have hstep := step_reading_byte (moves := answers bytes.length ++ moves) s op r hb
    rw [State.onByte_reading _ op r b (parseFrame_none_of_append _ bytes hn)] at hstep
    have hp : p + (b :: bytes).length = p + 1 + bytes.length := by rw [List.length_cons]; omega
    rw [hp]
    exact (run_succ _ _ _ hstep).trans (ih (r ++ [b]) (p + 1) hd' hn)

/-- A frame command and one answer for each of the bytes that begin a frame and do not complete it. -/
theorem run_frameCommand (bytes more : List Byte) (hb : s.busy = false) (ho : s.inState = .opened)
    (hs : s.binding = .source input p) (hp : s.pending = wrCmd (frameCommand op) :: (answers bytes.length ++ moves))
    (hd : input.data.drop p = bytes ++ more) (hn : parseFrame bytes = none) :
    core.run (1 + bytes.length) s = .next ((s.asking input (p + bytes.length) moves).reading op bytes) := by
  rw [Nat.add_comm, run_succ _ _ _ (step_frameCommand hb ho hs hp)]
  exact run_reading s op bytes more [] p hd hn

end

/-! ### An input that ends before a whole frame -/

theorem answers_add (m n : Nat) : answers (m + n) = answers m ++ answers n := by
  rw [answers, List.replicate_add]; rfl

theorem State.onEnd_reading_nil (s : State) (op : FrameOp) : (s.reading op []).onEnd = (s.reading op []).cleanEnd :=
  if_pos ⟨rfl, rfl⟩

/-- After the first byte END finds the engine inside a frame (R162). -/
theorem State.onEnd_reading_of_ne_nil (s : State) (op : FrameOp) (r : List Byte) (hr : r ≠ []) :
    (s.reading op r).onEnd = (s.reading op r).stopTruncated := by
  refine if_neg ?_
  rintro ⟨hph, hidx⟩
  have hk : r.length < 8 := by
    by_contra h
    simp only [State.reading, phaseAfter, if_neg h] at hph
    split_ifs at hph
  rw [s.reading_of_len op r hk] at hidx
  exact hr (List.length_eq_zero_iff.mp ((idx_eq_iff r.length 0 hk (by omega)).mp hidx))

/-- The run of a frame command on the last bytes of an input, which hold no whole frame. -/
theorem run_shortInput (s : State) (input : Input) (p : Nat) (op : FrameOp) (rest : List Move) (hb : s.busy = false)
    (ho : s.inState = .opened) (hs : s.binding = .source input p) (hn : parseFrame (input.data.drop p) = none)
    (hp : s.pending = wrCmd (frameCommand op) :: (answers ((input.data.drop p).length + 1) ++ rest)) :
    core.run (1 + ((input.data.drop p).length + 1)) s =
      .next (((s.asking input (p + (input.data.drop p).length) rest).reading op (input.data.drop p)).onAnswer
        (termAnswer input.term)) := by
  rw [answers_add, List.append_assoc] at hp
  rw [← Nat.add_assoc, run_add _ _ _ _ (run_frameCommand _ [] hb ho hs hp (by simp) hn)]
  exact run_succ 0 _ _ (step_reading_term s op _ (List.getElem?_eq_none (by rw [List.length_drop]; omega)))

/-- Settles O28: the term of the source meets the frame in progress, at its first byte or inside it. -/
theorem shortInputEndsTheInput : Obligations.ShortInputEndsTheInput := by
  intro s input p i rest hb ho hs hi hn hp
  obtain ⟨op, rfl, hv⟩ : ∃ op, i = frameCommand op ∧ decide (i = .nextFrame) = (op == .verify) := by
    rcases hi with rfl | rfl
    · exact ⟨.verify, rfl, rfl⟩
    · exact ⟨.skip, rfl, rfl⟩
  have hrun := run_shortInput s input p op rest hb ho hs hn hp
  rw [hv]
  generalize input.data.drop p = r at hrun ⊢
  refine ⟨_, hrun, ?_⟩
  cases input.term with
  | error =>
    simp only [termAnswer, State.onAnswer, reduceCtorEq, and_false, if_false]
    rfl
  | endOfInput =>
    by_cases hr : r = []
    · simp only [termAnswer, State.onAnswer, hr, State.onEnd_reading_nil, and_self, if_true, List.drop_nil, List.take_nil]
      rfl
    · simp only [termAnswer, State.onAnswer, State.onEnd_reading_of_ne_nil _ _ _ hr, hr, false_and, if_false, if_true]
      rfl

/-! ### A whole frame -/

/-- What follows a field leaves it. -/
theorem window_append (r bytes : List Byte) (off n : Nat) (h : off + n ≤ r.length) :
    ((r ++ bytes).drop off).take n = (r.drop off).take n := by
  rw [List.drop_append_of_le_length (by omega), List.take_append_of_le_length (by rw [List.length_drop]; omega)]

/-- A frame is its own 16 + L bytes, whatever follows (R94). -/
theorem parseFrame_of_append (r bytes : List Byte) (f : Frame) (h : parseFrame (r ++ bytes) = some f)
    (hl : r.length = 16 + f.length.toNat) : parseFrame r = some f := by
  obtain ⟨_, rfl⟩ := (parseFrame_eq_some_iff _ f).mp h
  have h8 := lengthField_append r bytes (by omega)
  dsimp only at hl
  rw [h8] at hl
  rw [parseFrame_eq_some_iff]
  refine ⟨hl.ge, ?_⟩
  rw [lengthChecksumField, lengthChecksumField, payloadField, payloadField, payloadChecksumField, payloadChecksumField, h8,
    window_append r bytes 8 4 (by omega), window_append r bytes 12 _ (by omega), window_append r bytes _ 4 (by omega)]

/-- A sequence that begins with a frame: the frame's bytes but the last, which hold no whole frame, the last, and the rest. -/
theorem exists_last_of_parseFrame (bytes : List Byte) (f : Frame) (h : parseFrame bytes = some f) :
    ∃ r b more, bytes = r ++ b :: more ∧ r.length = 15 + f.length.toNat ∧ parseFrame (r ++ [b]) = some f ∧
      parseFrame r = none := by
  have hle : 16 + f.length.toNat ≤ bytes.length := by
    obtain ⟨hle, rfl⟩ := (parseFrame_eq_some_iff _ f).mp h
    exact hle
  have hlt : 15 + f.length.toNat < bytes.length := by omega
  have hsplit : bytes = bytes.take (15 + f.length.toNat) ++ bytes[15 + f.length.toNat] ::
      bytes.drop (15 + f.length.toNat + 1) := by
    rw [← List.drop_eq_getElem_cons hlt, List.take_append_drop]
  have hr : (bytes.take (15 + f.length.toNat)).length = 15 + f.length.toNat := by rw [List.length_take]; omega
  generalize bytes.take (15 + f.length.toNat) = r, bytes[15 + f.length.toNat] = b,
    bytes.drop (15 + f.length.toNat + 1) = more at hsplit hr
  subst hsplit
  have hf : parseFrame (r ++ [b]) = some f :=
    parseFrame_of_append _ more f (by simpa using h) (by simp; omega)
  refine ⟨r, b, more, rfl, hr, hf, ?_⟩
  have hl : f.length = lengthField r := by
    rw [← lengthField_append r [b] (by omega), ← ((parseFrame_eq_some_iff _ f).mp hf).2]
  rw [parseFrame_eq_none_iff, ← hl]
  omega

/-- The bytes of a field are the little-endian encoding of its value (R91). -/
theorem leBytes_le (w : Nat) (bytes : List Byte) (h : 8 * bytes.length ≤ w) : leBytes bytes.length (le w bytes) = bytes := by
  apply List.ext_getElem
  · simp [leBytes]
  · intro k hk hk'
    apply BitVec.eq_of_getLsbD_eq
    intro i hi
    have hd : (8 * k + i) / 8 = k := by omega
    have hm : (8 * k + i) % 8 = i := by omega
    simp [leBytes, hi, le_getLsbD w bytes (8 * k + i) (by omega), hd, hm, hk']

/-- The length bytes of a frame are the encoding of its length (R91). -/
theorem leBytes_lengthField (bytes : List Byte) (h : 8 ≤ bytes.length) : leBytes 8 (lengthField bytes) = bytes.take 8 := by
  have hl : (bytes.take 8).length = 8 := by rw [List.length_take]; omega
  have := leBytes_le 64 (bytes.take 8) (by omega)
  rwa [hl] at this

/-- s after it has accepted a frame command of kind op and received the whole frame f, before complete_frame() (R160, R167). -/
def State.wholeFrame (s : State) (op : FrameOp) (f : Frame) : State :=
  { s.frameBegin op with
    streamOffset := s.streamOffset + 16 + f.length
    phase := .pcrc, idx := 3, remaining := 0
    lbuf := f.length, length := f.length, lenAcc := fedBy op (leBytes 8 f.length)
    lcs := f.lengthChecksum, lenCksumStored := f.lengthChecksum
    payAcc := fedBy op f.payload
    payloadOut := s.payloadOut ++ f.payload, history := s.history ++ f.payload.map .outWrite
    pcs := f.payloadChecksum, payCksumStored := f.payloadChecksum }

/-- The last byte of a frame completes it (R160). -/
theorem State.onByte_reading_last (s : State) (op : FrameOp) (r : List Byte) (b : Byte) (f : Frame)
    (hf : parseFrame (r ++ [b]) = some f) (hr : r.length = 15 + f.length.toNat) :
    (s.reading op r).onByte b = (s.wholeFrame op f).completeFrame := by
  obtain ⟨_, rfl⟩ := (parseFrame_eq_some_iff _ f).mp hf
  have hl := lengthField_append r [b] (by omega)
  have hb : leBytes 8 (lengthField r) = r.take 8 := leBytes_lengthField r (by omega)
  simp only [hl] at hr
  have hc := lengthChecksumField_concat_of_not_mem r b (by omega)
  have hp := payloadField_concat_of_le r b (by omega)
  have hz := payloadChecksumField_concat_of_mem r b (by omega)
  have hk : r.length - (12 + (lengthField r).toNat) = 3 := by omega
  have hn : BitVec.ofNat 64 r.length + 1 = 16 + lengthField r := by bv_omega
  rw [s.reading_of_pcrc op r (by omega), State.onByte_of_pcrc _ b rfl, State.pcrcByte_last _ b (by simp [hk])]
  simp only [State.wholeFrame, hl, hb, hc, hp, hz, hk, add_assoc, hn]
  rfl

/-- The run of a frame command on a whole frame: 16 + L answers, the last of which completes it (R172). -/
theorem run_wholeFrame (s : State) (input : Input) (p : Nat) (op : FrameOp) (f : Frame) (rest : List Move)
    (hb : s.busy = false) (ho : s.inState = .opened) (hs : s.binding = .source input p)
    (hf : parseFrame (input.data.drop p) = some f)
    (hp : s.pending = wrCmd (frameCommand op) :: (answers (16 + f.length.toNat) ++ rest)) :
    core.run (1 + (16 + f.length.toNat)) s =
      .next (((s.asking input (p + 16 + f.length.toNat) rest).wholeFrame op f).completeFrame) := by
  obtain ⟨r, b, more, hd, hr, hframe, hn⟩ := exists_last_of_parseFrame _ f hf
  have hlen : 16 + f.length.toNat = r.length + 1 := by omega
  have hlast : input.data[p + r.length]? = some b := by
    rw [← List.getElem?_drop, hd, List.getElem?_append_right (Nat.le_refl _), Nat.sub_self]; rfl
  have hstep := step_reading_byte (moves := rest) s op r hlast
  rw [State.onByte_reading_last _ op r b f hframe hr] at hstep
  rw [hlen, answers_add, List.append_assoc] at hp
  rw [Nat.add_assoc p, hlen, ← Nat.add_assoc 1, run_add _ _ _ _ (run_frameCommand r _ hb ho hs hp hd hn)]
  exact run_succ 0 _ _ hstep

/-- Each verdict is that the stored checksum is not the computed one, and is counted (R168). -/
theorem State.verifyAndCount_eq (s : State) : s.verifyAndCount = { s with
    lenCksumCalc := maskedOfAcc s.lenAcc, payCksumCalc := maskedOfAcc s.payAcc
    badLen := !(s.lcs == maskedOfAcc s.lenAcc), badPay := !(s.pcs == maskedOfAcc s.payAcc)
    recordsChecked := s.recordsChecked + 1
    badLenCount := if s.lcs == maskedOfAcc s.lenAcc then s.badLenCount else s.badLenCount + 1
    badPayCount := if s.pcs == maskedOfAcc s.payAcc then s.badPayCount else s.badPayCount + 1 } := by
  simp [State.verifyAndCount, bne, beq_eq_decide, eq_comm]

/-- Settles O26: the frame read, then verify_and_count() on it. -/
theorem nextReadsAndVerifiesOneFrame : Obligations.NextReadsAndVerifiesOneFrame := by
  intro s input p f rest hb ho hs hf hp
  refine ⟨_, run_wholeFrame s input p .verify f rest hb ho hs hf hp, ?_⟩
  rw [State.completeFrame_verify _ rfl, State.verifyAndCount_eq]
  rfl

end Sys2Proof.Machine
end

section
/-! PROOFS. The fast path: SKIP reads the frame that NEXT would read, verifies nothing of it, and the two run side by side
(42_fast_path.md R200 to R202). -/

namespace Sys2Proof.Machine

/-! ### One frame skipped -/

/-- Settles O21. -/
theorem skippedFrameCompletes : Obligations.SkippedFrameCompletes := by
  intro s input p b rest hp hb hph hi hop hs hd
  rw [step_answer_pcrcByte hp hb hs hd hph]
  simp only [State.pcrcByte_last, State.completeFrame_skip, hi, hop]
  rfl

/-- Settles O27: the frame read, then skip_count() on it. -/
theorem skipReadsOneFrameUnverified : Obligations.SkipReadsOneFrameUnverified := by
  intro s input p f rest hb ho hs hf hp
  refine ⟨_, run_wholeFrame s input p .skip f rest hb ho hs hf hp, ?_⟩
  rw [State.completeFrame_skip _ rfl]
  rfl

/-! ### The framing of a state -/

/-- What R202 makes NEXT and SKIP agree on: s with every element that may tell the two apart at the
value it has in a SKIP, or at 0. -/
def State.framing (s : State) : State :=
  { s with
    op := .skip, verify := false, badLen := false, badPay := false
    lenCksumCalc := 0, payCksumCalc := 0, lenAcc := 0, payAcc := 0
    recordsChecked := 0, badLenCount := 0, badPayCount := 0, recordsSkipped := 0 }

theorem State.sameFraming_of_framing_eq {s t : State} (h : s.framing = t.framing) : s.SameFraming t := by
  cases s; cases t; cases h
  constructor <;> rfl

/-- The kind of a frame command is not part of its framing. -/
theorem State.framing_frameBegin (s : State) (op : FrameOp) : (s.frameBegin op).framing = (s.frameBegin .skip).framing := rfl

section
variable (s : State) (b : Byte)

theorem State.framing_lenByte : (s.lenByte b).framing = (s.framing.lenByte b).framing := by
  by_cases h : s.idx = 7
  · rw [s.lenByte_last b h, s.framing.lenByte_last b h]; rfl
  · rw [s.lenByte_of_ne b h, s.framing.lenByte_of_ne b h]; rfl

theorem State.framing_lcrcByte : (s.lcrcByte b).framing = (s.framing.lcrcByte b).framing := by
  by_cases h : s.idx = 3
  · rw [s.lcrcByte_last b h, s.framing.lcrcByte_last b h]; rfl
  · rw [s.lcrcByte_of_ne b h, s.framing.lcrcByte_of_ne b h]; rfl

theorem State.framing_payByte : (s.payByte b).framing = (s.framing.payByte b).framing := by
  by_cases h : s.remaining - 1 = 0
  · rw [s.payByte_last b h, s.framing.payByte_last b h]; rfl
  · rw [s.payByte_of_ne b h, s.framing.payByte_of_ne b h]; rfl

/-- Verified or skipped, a frame completes with the same framing (R167). -/
theorem State.framing_completeFrame : s.completeFrame.framing = s.framing.completeFrame.framing := by
  rw [s.framing.completeFrame_skip rfl]
  cases h : s.op with
  | verify => rw [s.completeFrame_verify h]; rfl
  | skip => rw [s.completeFrame_skip h]; rfl

theorem State.framing_pcrcByte : (s.pcrcByte b).framing = (s.framing.pcrcByte b).framing := by
  by_cases h : s.idx = 3
  · rw [s.pcrcByte_last b h, s.framing.pcrcByte_last b h]
    exact State.framing_completeFrame _
  · rw [s.pcrcByte_of_ne b h, s.framing.pcrcByte_of_ne b h]; rfl

theorem State.framing_onByte : (s.onByte b).framing = (s.framing.onByte b).framing := by
  cases h : s.phase with
  | idle => simp only [State.onByte, State.framing, h]
  | len =>
    rw [s.onByte_of_len b h, s.framing.onByte_of_len b h]
    exact State.framing_lenByte _ b
  | lcrc =>
    rw [s.onByte_of_lcrc b h, s.framing.onByte_of_lcrc b h]
    exact State.framing_lcrcByte _ b
  | pay =>
    rw [s.onByte_of_pay b h, s.framing.onByte_of_pay b h]
    exact State.framing_payByte _ b
  | pcrc =>
    rw [s.onByte_of_pcrc b h, s.framing.onByte_of_pcrc b h]
    exact State.framing_pcrcByte _ b

theorem State.framing_onEnd : s.onEnd.framing = s.framing.onEnd.framing := by
  by_cases h : s.phase = .len ∧ s.idx = 0
  · have hf : s.framing.phase = .len ∧ s.framing.idx = 0 := h
    rw [State.onEnd, State.onEnd, if_pos h, if_pos hf]; rfl
  · have hf : ¬ (s.framing.phase = .len ∧ s.framing.idx = 0) := h
    rw [State.onEnd, State.onEnd, if_neg h, if_neg hf]; rfl

end

/-- The framing after an answer follows from the framing before it (R202). -/
theorem State.framing_onAnswer (s : State) (a : Answer) : (s.onAnswer a).framing = (s.framing.onAnswer a).framing := by
  cases a with
  | byte b => exact s.framing_onByte b
  | endOfInput => exact s.framing_onEnd
  | error => rfl

/-- The transfer a block asks for depends on its framing only. -/
theorem State.framing_inRead (s : State) : s.framing.inRead = (s.inRead.1, s.inRead.2.framing) := by
  rcases s.inRead_cases with ⟨hb, h⟩ | ⟨hb, h⟩ | ⟨input, pos, b, hb, hd, h⟩ | ⟨input, pos, hb, hd, h⟩ <;> rw [h]
  · simp only [State.inRead, State.framing, hb]
  · simp only [State.inRead, State.framing, hb]
  · exact s.framing.inRead_byte input pos b hb hd
  · exact s.framing.inRead_term input pos hb hd

/-! ### What an answer does to a block that can take it -/

/-- s after the move `answer`: an idle block stays, a busy one takes what its source answers, if anything does (R154). -/
def State.afterAnswer (s : State) : State :=
  if s.busy then s.inRead.1.elim s.inRead.2 s.inRead.2.onAnswer else s

/-- The engine is not busy in phase IDLE, so an answer meets no fault (R154). -/
def State.CanTakeAnswer (s : State) : Prop := s.busy = true → s.phase ≠ .idle

theorem engineStep_eq_afterAnswer (s : State) (h : s.CanTakeAnswer) : engineStep s = .next s.afterAnswer := by
  unfold State.afterAnswer
  rcases engineStep_cases s with ⟨hb, he⟩ | ⟨hb, hph, _⟩ | ⟨hb, _, ha, he⟩ | ⟨a, hb, _, ha, he⟩
  · simp [he, hb]
  · exact absurd hph (h hb)
  · simp [he, hb, ha]
  · simp [he, hb, ha]

/-- An answer moves at most the transfer's own elements, unless the engine takes it. -/
theorem State.afterAnswer_cases (s : State) : ∃ binding freeReads,
    s.afterAnswer = { s with binding := binding, freeReads := freeReads } ∨
    (s.busy = true ∧ ∃ a, s.afterAnswer = State.onAnswer { s with binding := binding, freeReads := freeReads } a) := by
  unfold State.afterAnswer
  by_cases hb : s.busy = true
  · obtain ⟨binding, freeReads, hr⟩ := s.inRead_frame
    refine ⟨binding, freeReads, ?_⟩
    rw [if_pos hb, hr]
    cases s.inRead.1 with
    | none => exact .inl rfl
    | some a => exact .inr ⟨hb, a, rfl⟩
  · exact ⟨s.binding, s.freeReads, .inl (if_neg hb)⟩

theorem State.framing_afterAnswer (s : State) : s.afterAnswer.framing = s.framing.afterAnswer.framing := by
  unfold State.afterAnswer
  by_cases hb : s.busy = true
  · rw [if_pos hb, if_pos (show s.framing.busy = true from hb), s.framing_inRead]
    cases s.inRead.1 with
    | none => rfl
    | some a => exact State.framing_onAnswer _ a
  · rw [if_neg hb, if_neg (show ¬ s.framing.busy = true from hb)]; rfl

theorem State.afterAnswer_pending (s : State) : s.afterAnswer.pending = s.pending := by
  obtain ⟨_, _, he | ⟨_, a, he⟩⟩ := s.afterAnswer_cases <;> rw [he]
  exact State.onAnswer_pending _ a

theorem State.onAnswer_canTakeAnswer (s : State) (a : Answer) (hb : s.busy = true) (hph : s.phase ≠ .idle) :
    (s.onAnswer a).CanTakeAnswer := by
  have ended {t : State} (h : t.CommandEnded) : t.CanTakeAnswer := fun hbusy => by
    rw [h.1] at hbusy; cases hbusy
  cases a with
  | byte b =>
    rcases s.onByte_reads_or_ends b hph hb with ⟨_, h⟩ | h
    · exact fun _ => h
    · exact ended h
  | endOfInput => exact ended (s.onAnswer_termAnswer_ends .endOfInput)
  | error => exact ended (s.onAnswer_termAnswer_ends .error)

theorem State.afterAnswer_canTakeAnswer (s : State) (h : s.CanTakeAnswer) : s.afterAnswer.CanTakeAnswer := by
  obtain ⟨_, _, he | ⟨hb, a, he⟩⟩ := s.afterAnswer_cases <;> rw [he]
  · exact h
  · exact State.onAnswer_canTakeAnswer _ a hb (h hb)

/-! ### What each kind of frame command leaves alone -/

/-- t has the kind of frame command, the verdicts and the counts of verified frames that s has. -/
structure State.SameVerdicts (s t : State) : Prop where
  op : t.op = s.op
  badLen : t.badLen = s.badLen
  badPay : t.badPay = s.badPay
  lenCksumCalc : t.lenCksumCalc = s.lenCksumCalc
  payCksumCalc : t.payCksumCalc = s.payCksumCalc
  recordsChecked : t.recordsChecked = s.recordsChecked
  badLenCount : t.badLenCount = s.badLenCount
  badPayCount : t.badPayCount = s.badPayCount

theorem State.SameVerdicts.refl (s : State) : s.SameVerdicts s := by constructor <;> rfl

theorem State.SameVerdicts.trans {s t u : State} (h : s.SameVerdicts t) (k : t.SameVerdicts u) : s.SameVerdicts u where
  op := k.op.trans h.op
  badLen := k.badLen.trans h.badLen
  badPay := k.badPay.trans h.badPay
  lenCksumCalc := k.lenCksumCalc.trans h.lenCksumCalc
  payCksumCalc := k.payCksumCalc.trans h.payCksumCalc
  recordsChecked := k.recordsChecked.trans h.recordsChecked
  badLenCount := k.badLenCount.trans h.badLenCount
  badPayCount := k.badPayCount.trans h.badPayCount

/-- t has the kind of frame command and the count of skipped frames that s has. -/
structure State.SameSkips (s t : State) : Prop where
  op : t.op = s.op
  recordsSkipped : t.recordsSkipped = s.recordsSkipped

/-- SKIP verifies nothing, whatever the source answers (42_fast_path.md R201). -/
theorem State.sameVerdicts_onAnswer (s : State) (a : Answer) (h : s.op = .skip) : s.SameVerdicts (s.onAnswer a) := by
  rcases s.onAnswer_effect a with k | ⟨b, he⟩ | he | he | he
  · exact ⟨k.op, k.badLen, k.badPay, k.lenCksumCalc, k.payCksumCalc, k.recordsChecked, k.badLenCount, k.badPayCount⟩
  · rw [he, (s.lastByteTaken b).completeFrame_skip h]; constructor <;> rfl
  · rw [he]; constructor <;> rfl
  · rw [he]; constructor <;> rfl
  · rw [he]; constructor <;> rfl

/-- NEXT skips nothing, whatever the source answers (41_frame_reader.md R168). -/
theorem State.sameSkips_onAnswer (s : State) (a : Answer) (h : s.op = .verify) : s.SameSkips (s.onAnswer a) := by
  rcases s.onAnswer_effect a with k | ⟨b, he⟩ | he | he | he
  · exact ⟨k.op, k.recordsSkipped⟩
  · rw [he, (s.lastByteTaken b).completeFrame_verify h]; constructor <;> rfl
  · rw [he]; constructor <;> rfl
  · rw [he]; constructor <;> rfl
  · rw [he]; constructor <;> rfl

theorem State.sameVerdicts_afterAnswer (s : State) (h : s.op = .skip) : s.SameVerdicts s.afterAnswer := by
  obtain ⟨binding, freeReads, he | ⟨_, a, he⟩⟩ := s.afterAnswer_cases <;> rw [he]
  · constructor <;> rfl
  · have hread : s.SameVerdicts { s with binding := binding, freeReads := freeReads } := by constructor <;> rfl
    exact hread.trans (State.sameVerdicts_onAnswer _ a h)

theorem State.sameSkips_afterAnswer (s : State) (h : s.op = .verify) : s.SameSkips s.afterAnswer := by
  obtain ⟨binding, freeReads, he | ⟨_, a, he⟩⟩ := s.afterAnswer_cases <;> rw [he]
  · constructor <;> rfl
  · obtain ⟨hop, hskipped⟩ := State.sameSkips_onAnswer { s with binding := binding, freeReads := freeReads } a h
    exact ⟨hop, hskipped⟩

/-! ### NEXT and SKIP side by side -/

theorem step_answer_eq_afterAnswer (s : State) (rest : List Move) (hp : s.pending = .answer :: rest)
    (h : s.CanTakeAnswer) : step s = .next (State.afterAnswer { s with pending := rest }) :=
  (step_answer s rest hp).trans (engineStep_eq_afterAnswer _ h)

/-- A NEXT in progress in x and a SKIP in progress in y, as far along in the same frame. -/
structure State.SideBySide (x y : State) : Prop where
  framing : x.framing = y.framing
  next : x.op = .verify
  skip : y.op = .skip
  ready : x.CanTakeAnswer

namespace State.SideBySide

variable {x y : State}

theorem pending (h : x.SideBySide y) : x.pending = y.pending :=
  (State.sameFraming_of_framing_eq h.framing).pending

theorem skip_ready (h : x.SideBySide y) : y.CanTakeAnswer := by
  have hf := State.sameFraming_of_framing_eq h.framing
  have hx := h.ready
  rwa [State.CanTakeAnswer, hf.busy, hf.phase] at hx

theorem withPending (h : x.SideBySide y) (rest : List Move) :
    State.SideBySide { x with pending := rest } { y with pending := rest } where
  framing := congrArg (fun s : State => { s with pending := rest }) h.framing
  next := h.next
  skip := h.skip
  ready := h.ready

/-- One answer of the source keeps them side by side: both take it, or neither does. -/
theorem afterAnswer (h : x.SideBySide y) : x.afterAnswer.SideBySide y.afterAnswer where
  framing := by rw [x.framing_afterAnswer, h.framing, ← y.framing_afterAnswer]
  next := (x.sameSkips_afterAnswer h.next).op.trans h.next
  skip := (y.sameVerdicts_afterAnswer h.skip).op.trans h.skip
  ready := x.afterAnswer_canTakeAnswer h.ready

/-- Any number of answers keeps them side by side, and neither counts in the other's counters (R202). -/
theorem run_answers (h : x.SideBySide y) (n : Nat) (rest : List Move) (hp : x.pending = answers n ++ rest) :
    ∃ a b, core.run n x = .next a ∧ core.run n y = .next b ∧ a.SideBySide b ∧
      a.recordsSkipped = x.recordsSkipped ∧ y.SameVerdicts b := by
  induction n generalizing x y with
  | zero => exact ⟨x, y, rfl, rfl, h, rfl, .refl y⟩
  | succ n ih =>
    have hx := step_answer_eq_afterAnswer x (answers n ++ rest) hp h.ready
    have hy := step_answer_eq_afterAnswer y (answers n ++ rest) (h.pending.symm.trans hp) h.skip_ready
    have hrest := h.withPending (answers n ++ rest)
    obtain ⟨a, b, ha, hb, hab, hskipped, hverdicts⟩ := ih hrest.afterAnswer (State.afterAnswer_pending _)
    refine ⟨a, b, (run_succ n x _ hx).trans ha, (run_succ n y _ hy).trans hb, hab, ?_, ?_⟩
    · exact hskipped.trans (State.sameSkips_afterAnswer _ hrest.next).recordsSkipped
    · have hstep : y.SameVerdicts { y with pending := answers n ++ rest } := by constructor <;> rfl
      exact hstep.trans ((State.sameVerdicts_afterAnswer _ hrest.skip).trans hverdicts)

end State.SideBySide

theorem State.frameBegin_sideBySide (s : State) : (s.frameBegin .verify).SideBySide (s.frameBegin .skip) where
  framing := s.framing_frameBegin .verify
  next := rfl
  skip := rfl
  ready := fun _ => by simp

/-- An idle block in an open input, whatever its source, begins the frame command that the host writes. -/
theorem step_beginsFrame (s : State) (op : FrameOp) (moves : List Move) (hb : s.busy = false) (ho : s.inState = .opened) :
    step { s with pending := wrCmd (frameCommand op) :: moves } = .next (State.frameBegin { s with pending := moves } op) := by
  rw [step_wrCmd _ (frameCommand op) moves rfl]
  cases op with
  | verify => exact exec_of_legal .nextFrame _ hb ho
  | skip => exact exec_of_legal .skipFrame _ hb ho

/-- Settles O29: both commands begin the frame side by side, and the answers keep them so. -/
theorem skipAndNextFrameAlike : Obligations.SkipAndNextFrameAlike := by
  intro s n rest hb ho
  have hnext := step_beginsFrame s .verify (answers n ++ rest) hb ho
  have hskip := step_beginsFrame s .skip (answers n ++ rest) hb ho
  obtain ⟨a, b, ha, hb', hab, hskipped, hverdicts⟩ :=
    (State.frameBegin_sideBySide { s with pending := answers n ++ rest }).run_answers n rest rfl
  rw [Nat.add_comm]
  exact ⟨a, b, (run_succ n _ _ hnext).trans ha, (run_succ n _ _ hskip).trans hb',
    State.sameFraming_of_framing_eq hab.framing, hverdicts.recordsChecked, hverdicts.badLenCount, hverdicts.badPayCount,
    hskipped, hverdicts.badLen, hverdicts.badPay, hverdicts.lenCksumCalc, hverdicts.payCksumCalc⟩

end Sys2Proof.Machine
end

section
/-! PROOFS. Writes to CMD and the error field: the outcomes of a write in their order of priority, and what leaves the error field
and the recorded rejections alone (60_exceptions.md R225 to R233). -/

namespace Sys2Proof.Machine

/-! ### A command that is not accepted -/

theorem exec_of_busy (i : Instr) (s : State) (hb : s.busy = true) : exec i s = .next (s.raiseCmdError .busy) := by
  obtain ⟨legal, perform, he, _⟩ := exec_next i s
  rw [he, State.accept_busy s legal perform hb]

/-- An idle block rejects every command that its IN_STATE does not allow. -/
theorem exec_of_illegal (i : Instr) (s : State) (hb : s.busy = false) (hl : ¬ legalIn i s.inState) :
    exec i s = .next (s.raiseCmdError .badState) := by
  obtain ⟨legal, perform, he, _⟩ := exec_next i s
  rcases exec_cases i s _ he with ⟨hbusy, _⟩ | ⟨_, ht, _⟩ | ⟨_, rfl, ho, _⟩ | ⟨_, rfl, ho, _⟩ | ⟨_, rfl, ho, _⟩ |
    ⟨_, rfl, ho, _⟩ | ⟨_, rfl, _⟩ | ⟨b, _, rfl, _⟩
  · rw [hb] at hbusy; cases hbusy
  · rw [he, ht]
  · exact absurd ho hl
  · exact absurd ho hl
  · exact absurd ho hl
  · exact absurd ho hl
  · exact absurd trivial hl
  · exact absurd trivial hl

/-- The outcomes of a command, in the order in which they are decided (R226). -/
theorem exec_outcome (i : Instr) (s : State) :
    (s.busy = true ∧ exec i s = .next (s.raiseCmdError .busy)) ∨
    (s.busy = false ∧ ¬ legalIn i s.inState ∧ exec i s = .next (s.raiseCmdError .badState)) ∨
    (s.busy = false ∧ legalIn i s.inState ∧ exec i s = .next (s.perform i)) := by
  by_cases hb : s.busy = true
  · exact .inl ⟨hb, exec_of_busy i s hb⟩
  · have hidle : s.busy = false := Bool.eq_false_iff.2 hb
    by_cases hl : legalIn i s.inState
    · exact .inr (.inr ⟨hidle, hl, exec_of_legal i s hidle hl⟩)
    · exact .inr (.inl ⟨hidle, hl, exec_of_illegal i s hidle hl⟩)

/-- The conditions of BAD_STATE, by command (R226). -/
theorem not_legalIn_iff (i : Instr) (st : InState) :
    ¬ legalIn i st ↔
      (i = .nextFrame ∨ i = .skipFrame ∨ i = .closeInput) ∧ st ≠ .opened ∨ i = .openInput ∧ st = .opened := by
  cases i <;> simp [legalIn]

/-- The conditions of BAD_STATE, by opcode (R101, R226). -/
theorem not_legalIn_iff_opcode (i : Instr) (st : InState) :
    ¬ legalIn i st ↔
      opcodeOf i ∈ [0x02#8, 0x03#8, 0x04#8] ∧ st ≠ .opened ∨ opcodeOf i = 0x01 ∧ st = .opened := by
  cases i <;> simp [legalIn, opcodeOf]

/-- Settles O11. -/
theorem rejectedCommandsChangeNothingElse : Obligations.RejectedCommandsChangeNothingElse := fun s i =>
  ⟨exec_of_busy i s, fun hb hbad => exec_of_illegal i s hb ((not_legalIn_iff i s.inState).2 hbad)⟩

/-! ### The outcomes of a write to CMD -/

/-- A write of a word that decodes to a command runs that command. -/
theorem step_of_decode_cmd (s : State) (w : Word) (rest : List Move) (i : Instr)
    (hp : s.pending = .write 0x00 4 w :: rest) (hd : decode w = .cmd i) :
    step s = exec i { s with pending := rest } := by
  rw [step_writeCmd s w rest hp, hd]

/-- The host's command word enters as a write to CMD. -/
theorem State.withFetchWord_encode (s : State) (i : Instr) :
    s.withFetchWord 32 (encode i).toNat = { s with pending := wrCmd i :: s.pending } := by
  have hw : BitVec.ofNat 32 ((encode i).toNat % 2 ^ 32) = encode i := by
    rw [Nat.mod_eq_of_lt (encode i).isLt, BitVec.ofNat_toNat, BitVec.setWidth_eq]
  simp only [State.withFetchWord, State.withCommandWord, wrCmd, hw]

/-- Settles O5. -/
theorem stepRunsDecodedCommand : Obligations.StepRunsDecodedCommand := by
  refine ⟨fun s w i rest hp hd => step_of_decode_cmd s w rest i hp hd, fun s i => ?_⟩
  rw [s.withFetchWord_encode i]
  exact step_wrCmd _ i s.pending rfl

/-- What a write to CMD can do: be rejected by the decoder, for BUSY or for the IN_STATE, or have its command's effect (R226). -/
theorem step_writeCmd_cases (s : State) (w : Word) (rest : List Move) (hp : s.pending = .write 0x00 4 w :: rest) :
    (∃ c, decode w = .reject c ∧ step s = .next (State.raiseCmdError { s with pending := rest } c)) ∨
    (∃ i, decode w = .cmd i ∧
      ((s.busy = true ∧ step s = .next (State.raiseCmdError { s with pending := rest } .busy)) ∨
       (s.busy = false ∧ ¬ legalIn i s.inState ∧ step s = .next (State.raiseCmdError { s with pending := rest } .badState)) ∨
       (s.busy = false ∧ legalIn i s.inState ∧ step s = .next (State.perform { s with pending := rest } i)))) := by
  cases hd : decode w with
  | reject c => exact .inl ⟨c, rfl, step_of_decode_reject s w rest c hp hd⟩
  | cmd i =>
    refine .inr ⟨i, rfl, ?_⟩
    rw [step_of_decode_cmd s w rest i hp hd]
    exact exec_outcome i { s with pending := rest }

/-- Every accepted command clears the error field (10_state.md R25). -/
theorem State.perform_errorField (s : State) (i : Instr) : (s.perform i).cmdErr = false ∧ (s.perform i).errCode = none := by
  cases i <;> exact ⟨rfl, rfl⟩

/-- The code a command leaves: BUSY before BAD_STATE, none when it is accepted (R227). -/
theorem exec_errCode (i : Instr) (s : State) :
    ∃ t, exec i s = .next t ∧ t.errCode =
      if s.busy = true then some .busy
      else if opcodeOf i ∈ [0x02#8, 0x03#8, 0x04#8] ∧ s.inState ≠ .opened ∨ opcodeOf i = 0x01 ∧ s.inState = .opened then
        some .badState
      else none := by
  have hbad := not_legalIn_iff_opcode i s.inState
  rcases exec_outcome i s with ⟨hb, he⟩ | ⟨hb, hl, he⟩ | ⟨hb, hl, he⟩ <;> refine ⟨_, he, ?_⟩
  · rw [if_pos hb]; rfl
  · rw [if_neg (Bool.eq_false_iff.1 hb), if_pos (hbad.1 hl)]; rfl
  · rw [if_neg (Bool.eq_false_iff.1 hb), if_neg fun h => hbad.2 h hl]; exact (s.perform_errorField i).2

/-- A word whose fields meet neither condition of the decoder is a command with that opcode (30_encoding.md R105). -/
theorem decode_of_fields_clear (w : Word) (ha : (fieldsOf w).opc ∈ assignedOpcodes)
    (hb : ¬ ((fieldsOf w).rsvd ≠ 0 ∨ ((fieldsOf w).opc ≠ 0x11 ∧ (fieldsOf w).imm8 ≠ 0))) :
    ∃ i, decode w = .cmd i ∧ (fieldsOf w).opc = opcodeOf i := by
  rcases decode_cases w with ⟨_, hn⟩ | ⟨_, _, hset⟩ | ⟨i, hd, _⟩
  · exact absurd ha ((instrOf_eq_none_iff _ _).1 hn)
  · exact absurd hset hb
  · exact ⟨i, hd, ((decode_eq_cmd_iff w i).1 hd).1⟩

/-- Settles O12, condition by condition in the order of R227. -/
theorem rejectionPriority : Obligations.RejectionPriority := by
  intro s w rest hp
  by_cases ha : (fieldsOf w).opc ∈ assignedOpcodes
  case neg =>
    exact ⟨_, step_of_decode_reject s w rest _ hp (decode_of_not_assigned w ha), (if_pos ha).symm⟩
  by_cases hbits : (fieldsOf w).rsvd ≠ 0 ∨ ((fieldsOf w).opc ≠ 0x11 ∧ (fieldsOf w).imm8 ≠ 0)
  case pos =>
    exact ⟨_, step_of_decode_reject s w rest _ hp (decode_of_bits_set w ha hbits),
      ((if_neg (not_not_intro ha)).trans (if_pos hbits)).symm⟩
  obtain ⟨i, hd, hopc⟩ := decode_of_fields_clear w ha hbits
  obtain ⟨t, he, ht⟩ := exec_errCode i { s with pending := rest }
  rw [← hopc] at ht
  exact ⟨t, (step_of_decode_cmd s w rest i hp hd).trans he,
    ht.trans ((if_neg (not_not_intro ha)).trans (if_neg hbits)).symm⟩

/-! ### The recorded rejections -/

/-- Events that are no rejections leave the number of rejections. -/
theorem State.rejectedCount_of_append {s t : State} {es : List Event} (hh : t.history = s.history ++ es)
    (hn : ∀ c, .rejected c ∉ es) : t.rejectedCount = s.rejectedCount := by
  simp only [State.rejectedCount, hh, List.filter_append, List.length_append, Nat.add_eq_left, List.length_eq_zero_iff,
    List.filter_eq_nil_iff]
  intro e he
  cases e with
  | rejected c => exact absurd he (hn c)
  | release => simp
  | outWrite b => simp
  | readData off width v => simp
  | reset => simp

/-- No accepted command records a rejection. -/
theorem State.perform_rejectedCount (s : State) (i : Instr) : (s.perform i).rejectedCount = s.rejectedCount := by
  cases i with
  | closeInput => exact State.rejectedCount_of_append (es := [.release]) rfl (by simp)
  | openInput => rfl
  | nextFrame => rfl
  | skipFrame => rfl
  | cksInit => rfl
  | cksByte b => rfl

/-- Settles O13. -/
theorem everyRejectionIsObservable : Obligations.EveryRejectionIsObservable := by
  intro s w rest hp
  rcases step_writeCmd_cases s w rest hp with ⟨c, _, hs⟩ | ⟨i, _, ⟨_, hs⟩ | ⟨_, _, hs⟩ | ⟨_, _, hs⟩⟩ <;>
    refine ⟨_, hs, ?_⟩
  · exact .inl ⟨c, rfl, rfl, rfl⟩
  · exact .inl ⟨.busy, rfl, rfl, rfl⟩
  · exact .inl ⟨.badState, rfl, rfl, rfl⟩
  · obtain ⟨hcmdErr, herrCode⟩ := State.perform_errorField { s with pending := rest } i
    exact .inr ⟨hcmdErr, herrCode, State.perform_rejectedCount _ i⟩

/-! ### The engine raises no CmdError -/

theorem State.onAnswer_errorField (s : State) (a : Answer) :
    (s.onAnswer a).cmdErr = s.cmdErr ∧ (s.onAnswer a).errCode = s.errCode := by
  rcases s.onAnswer_effect a with h | ⟨b, h⟩ | h | h | h
  · exact ⟨h.cmdErr, h.errCode⟩
  · rw [h]; exact ⟨State.completeFrame_cmdErr _, State.completeFrame_errCode _⟩
  · rw [h]; exact ⟨rfl, rfl⟩
  · rw [h]; exact ⟨rfl, rfl⟩
  · rw [h]; exact ⟨rfl, rfl⟩

/-- An answer adds payload bytes or one Release() to the history, never a rejection. -/
theorem State.onAnswer_rejectedCount (s : State) (a : Answer) : (s.onAnswer a).rejectedCount = s.rejectedCount := by
  cases a with
  | byte b => exact State.rejectedCount_of_append (s.emits_onByte b).2 (by simp)
  | endOfInput =>
    rcases s.onEnd_cases with ⟨_, _, h⟩ | ⟨_, h⟩ <;> simp only [State.onAnswer, h] <;>
      exact State.rejectedCount_of_append (es := [.release]) rfl (by simp)
  | error => exact State.rejectedCount_of_append (es := [.release]) rfl (by simp)

/-- An engine step leaves the error field and the recorded rejections (R229). -/
theorem engineStep_errorField (s t : State) (h : engineStep s = .next t) :
    t.cmdErr = s.cmdErr ∧ t.errCode = s.errCode ∧ t.rejectedCount = s.rejectedCount := by
  obtain ⟨_, _, hr⟩ := s.inRead_frame
  rcases engineStep_cases s with ⟨_, he⟩ | ⟨_, _, he⟩ | ⟨_, _, _, he⟩ | ⟨a, _, _, _, he⟩ <;> rw [he] at h <;> cases h
  · exact ⟨rfl, rfl, rfl⟩
  · rw [hr]; exact ⟨rfl, rfl, rfl⟩
  · obtain ⟨hcmdErr, herrCode⟩ := State.onAnswer_errorField s.inRead.2 a
    rw [hcmdErr, herrCode, State.onAnswer_rejectedCount, hr]
    exact ⟨rfl, rfl, rfl⟩

/-- Settles O14: in a busy block a write to CMD has no outcome but a rejection. -/
theorem busyFrameCommandIsUndisturbed : Obligations.BusyFrameCommandIsUndisturbed := by
  constructor
  · intro s t rest hp h
    rw [step_answer s rest hp] at h
    exact engineStep_errorField { s with pending := rest } t h
  · intro s w rest hp hb
    rcases step_writeCmd_cases s w rest hp with ⟨c, hd, hs⟩ | ⟨i, _, ⟨_, hs⟩ | ⟨hidle, _⟩ | ⟨hidle, _⟩⟩
    · exact ⟨c, hs, fun i hi => by rw [hd] at hi; cases hi⟩
    · exact ⟨.busy, hs, fun _ _ => rfl⟩
    · rw [hb] at hidle; cases hidle
    · rw [hb] at hidle; cases hidle

end Sys2Proof.Machine
end

section
/-! PROOFS. What does not move a block: no move pending, an answer that finds no frame command, and the steps of another block
(41_frame_reader.md R154; 60_exceptions.md R244, R246). -/

namespace Sys2Proof.Machine

/-! ### An answer without a frame command or without a source -/

/-- A transfer on a port to which no source was connected takes the next free answer (log 3). -/
theorem State.inRead_unconnected (s : State) (h : s.binding = .unconnected) :
    s.inRead = (Config.unconnectedAnswer s.freeReads, { s with freeReads := s.freeReads + 1 }) := by
  simp [State.inRead, h]

/-- A busy block takes what its port answers, if anything does. -/
theorem State.afterAnswer_of_busy (s : State) (hb : s.busy = true) :
    s.afterAnswer = s.inRead.1.elim s.inRead.2 s.inRead.2.onAnswer :=
  if_pos hb

/-- Settles O24. -/
theorem engineMovesOnlyWhenAnswered : Obligations.EngineMovesOnlyWhenAnswered := by
  refine ⟨fun s rest hp hb => ?_, fun s rest hp hb hph hs => ?_, step_nil⟩
  · exact (step_answer s rest hp).trans (engineStep_of_idle _ hb)
  · rw [step_answer_eq_afterAnswer s rest hp fun _ => hph, State.afterAnswer_of_busy { s with pending := rest } hb,
      State.inRead_unconnected { s with pending := rest } hs]
    cases Config.unconnectedAnswer s.freeReads <;> rfl

/-! ### Several blocks -/

/-- A step of block k replaces that block's state by its own next state; without such a block nothing moves. -/
theorem System.stepBlock_next (k : Nat) (y z : System) (h : System.stepBlock k y = .next z) :
    (y.blocks[k]? = none ∧ z = y) ∨
    (∃ s s', y.blocks[k]? = some s ∧ step s = .next s' ∧ z.blocks = y.blocks.set k s') := by
  unfold System.stepBlock at h
  cases hk : y.blocks[k]? with
  | none =>
    rw [hk] at h
    exact .inl ⟨rfl, (Host.Outcome.next.inj h).symm⟩
  | some s =>
    simp only [hk] at h
    cases hs : step s with
    | next s' =>
      rw [hs] at h
      cases h
      exact .inr ⟨s, s', rfl, hs, rfl⟩
    | fault r => rw [hs] at h; cases h
    | refused r => rw [hs] at h; cases h

/-- Settles O59. -/
theorem instancesShareNothing : Obligations.InstancesShareNothing := by
  intro k y z h
  rcases System.stepBlock_next k y z h with ⟨hk, rfl⟩ | ⟨s, s', hk, hs, hz⟩
  · refine ⟨fun _ _ => rfl, fun s hsome => ?_⟩
    rw [hk] at hsome; cases hsome
  · rw [hz]
    refine ⟨fun j hj => List.getElem?_set_ne hj.symm, fun u hu => ?_⟩
    obtain ⟨hlt, _⟩ := List.getElem?_eq_some_iff.1 hk
    rw [hk] at hu
    cases hu
    exact ⟨s', hs, List.getElem?_set_self hlt⟩

end Sys2Proof.Machine
end

section
/-! PROOFS. Reset, and the registers while a frame command is in progress: what an asserted reset restores and keeps, that nothing else
leads back to CLOSED, and the result registers of a busy block (70_reset_and_hazards.md R260, R262, R271). -/

namespace Sys2Proof.Machine

/-! ### Only reset leads to CLOSED -/

/-- No command closes an input that was opened: OPEN leads to OPEN, CLOSE to ABANDONED. -/
theorem State.inState_closed_of_perform (s : State) (i : Instr) (h : (s.perform i).inState = .closed) :
    s.inState = .closed := by
  by_cases hkept : (s.perform i).inState = s.inState
  · rw [← hkept, h]
  · rcases s.perform_inState i hkept with ⟨_, ho⟩ | ⟨_, ha⟩
    · rw [ho] at h; cases h
    · rw [ha] at h; cases h

/-- No answer leads to CLOSED: the ends of an input lead to its terminal states. -/
theorem State.inState_closed_of_onAnswer (s : State) (a : Answer) (h : (s.onAnswer a).inState = .closed) :
    s.inState = .closed := by
  rcases s.onAnswer_inState a with hkept | ⟨he, _⟩ | ⟨ht, _⟩ | ⟨hu, _⟩
  · rw [← hkept, h]
  · rw [he] at h; cases h
  · rw [ht] at h; cases h
  · rw [hu] at h; cases h

/-- Settles O45: a reset is State.assertReset, and of the four effects of a step only a reset can lead to CLOSED. -/
theorem resetRestoresEveryElement : Obligations.ResetRestoresEveryElement := by
  refine ⟨fun s rest hp => ⟨_, step_reset s rest hp, rfl⟩, fun s t h hc => ?_⟩
  rcases step_effect s t h with hu | ⟨_, rest, i, _, _, _, _, rfl⟩ | ⟨rest, hp, _⟩ | ⟨rest, a, _, _, _, _, rfl⟩
  · exact .inl (hu.inState ▸ hc)
  · exact .inl (State.inState_closed_of_perform { s with pending := rest } i hc)
  · exact .inr ⟨rest, hp⟩
  · have hread := State.inState_closed_of_onAnswer (State.inRead { s with pending := rest }).2 a hc
    rw [State.inRead_inState] at hread
    exact .inl hread

/-- Settles O46: the one event a reset adds to the history is its own, which is no Release(). -/
theorem resetAbandonsTheCommand : Obligations.ResetAbandonsTheCommand := by
  intro s t rest hp h
  rw [step_reset s rest hp] at h
  cases h
  exact ⟨rfl, rfl, rfl, rfl, rfl, State.releaseCount_of_append (es := [.reset]) rfl (by simp), List.prefix_append _ _⟩

/-! ### The result registers of a busy block -/

/-- With no outcome, no verdict and no stop, VERIFY is the only bit of FRAME_STATUS that can be set. -/
theorem State.frameStatusWord_of_noOutcome (s : State) (ho : s.outcome = .none) (hl : s.badLen = false)
    (hp : s.badPay = false) (hs : s.stopPhase = .idle) :
    s.frameStatusWord = if s.verify then 0x00000008 else 0x00000000 := by
  have hvalid : s.frameValid = false := by simp [State.frameValid, ho]
  rw [State.frameStatusWord, hvalid, ho, hl, hp, hs]
  cases s.verify <;> rfl

/-- LENGTH reads 0 in both halves when it is 0. -/
theorem State.memRead_length_of_zero (s : State) (h : s.length = 0) : s.memRead 0x10 4 = 0 ∧ s.memRead 0x14 4 = 0 := by
  rw [s.memRead_listed _ .lengthLo rfl rfl, s.memRead_listed _ .lengthHi rfl rfl, State.readReg, State.readReg, h]
  exact ⟨rfl, rfl⟩

/-- Settles O57: the invariant's clauses for a block whose frame command is in progress, read through the window. -/
theorem busyRegistersAreIntermediate : Obligations.BusyRegistersAreIntermediate := by
  intro s hinv hb
  have hreading : s.phase ≠ .idle := fun hidle => by
    have hfree := hinv.control.idle_iff.1 hidle
    rw [hb] at hfree; cases hfree
  obtain ⟨hbadLen, hbadPay, hstop⟩ := hinv.control.frameStatus_of_busy hb
  obtain ⟨hpayStored, hlenCalc, hpayCalc⟩ := hinv.progress.results_zero hreading
  exact ⟨s.frameStatusWord_of_noOutcome (hinv.control.busy_none hb) hbadLen hbadPay hstop,
    fun hlen => s.memRead_length_of_zero (hinv.progress.length_zero hlen),
    fun hearly => (s.memRead_listed _ .lenCksumStored rfl rfl).trans (hinv.progress.lcs_zero hearly),
    (s.memRead_listed _ .lenCksumCalc rfl rfl).trans hlenCalc,
    (s.memRead_listed _ .payCksumStored rfl rfl).trans hpayStored,
    (s.memRead_listed _ .payCksumCalc rfl rfl).trans hpayCalc⟩

end Sys2Proof.Machine
end

section
/-! PROOFS. The input port and the window's bounds, where the spec leaves the choice to the model: OPEN with and without a source on
the port, an access outside the window, and a binding (20_memory.md R60, R65; 41_frame_reader.md R150; logs 3 to 6). -/

namespace Sys2Proof.Machine

/-! ### What OPEN takes from the port -/

/-- With no source on the port, what is taken is a binding of which nothing is known (log 3). -/
theorem State.takeBinding_of_unconnected (s : State) (h : s.connected = none) :
    s.takeBinding = { s with binding := .unconnected, connected := none } := by
  simp [State.takeBinding, h]

/-- An accepted OPEN holds what it took from the port, and leaves the port empty. -/
theorem State.performOpen_port (s : State) :
    s.performOpen.binding = s.takeBinding.binding ∧ s.performOpen.connected = none := ⟨rfl, rfl⟩

/-- Settles O7: both clauses are the effect of an accepted OPEN, by what is on the port. -/
theorem openWithoutSourceHoldsUnknownBinding : Obligations.OpenWithoutSourceHoldsUnknownBinding := by
  refine ⟨fun s hb ho hc => ?_, fun s input hb ho hc => ?_⟩
  · rw [exec_of_legal .openInput s hb ho, State.perform, State.performOpen, s.takeBinding_of_unconnected hc]
    rfl
  · obtain ⟨hbinding, hport⟩ := s.performOpen_port
    exact ⟨s.performOpen, exec_of_legal .openInput s hb ho, hbinding.trans (s.takeBinding_binding_some input hc), hport⟩

/-! ### Refused host actions -/

/-- A read outside the window is refused, whatever its width and alignment (log 6). -/
theorem hostRead_of_outside (off width : Nat) (s : State) (h : windowSize ≤ off) :
    hostRead off width s = .refused (.accessOutsideWindow off) :=
  if_neg (Nat.not_lt.2 h)

/-- A write outside the window is refused, not ignored (log 6). -/
theorem hostWriteIgnored_of_outside (off : Nat) (s : State) (h : windowSize ≤ off) :
    hostWriteIgnored off s = .refused (.accessOutsideWindow off) :=
  if_neg (Nat.not_lt.2 h)

/-- CMD, at offset 0, lies inside the window. -/
theorem ne_zero_of_outside (off : Nat) (h : windowSize ≤ off) : off ≠ 0 := by
  rintro rfl
  exact absurd h (by decide)

/-- The port takes no source while the input is open (log 5). -/
theorem hostBind_of_opened (input : Input) (s : State) (h : s.inState = .opened) :
    hostBind input s = .refused .rebindWhileOpen :=
  if_pos h

/-- While the input is not open, a source takes the port, whatever was on it (log 4). -/
theorem hostBind_of_not_opened (input : Input) (s : State) (h : s.inState ≠ .opened) :
    hostBind input s = .next { s with connected := some input } :=
  if_neg h

/-- Settles O43, host action by host action; a write outside the window is none to CMD, so that it is refused and not decoded. -/
theorem undecodedAccessAndRebindAreRefused : Obligations.UndecodedAccessAndRebindAreRefused := by
  refine ⟨fun s off width v rest hoff hp => ?_, fun s input rest hp ho => ?_, fun s input rest hp ho => ?_⟩
  · rcases hp with hread | hwrite
    · exact (step_read s off width rest hread).trans (hostRead_of_outside off width _ hoff)
    · exact (step_writeIgnored s off width v rest hwrite fun ⟨hcmd, _⟩ => ne_zero_of_outside off hoff hcmd).trans
        (hostWriteIgnored_of_outside off _ hoff)
  · exact (step_bind s input rest hp).trans (hostBind_of_opened input _ ho)
  · exact (step_bind s input rest hp).trans (hostBind_of_not_opened input _ ho)

end Sys2Proof.Machine
end
